-- ==== Sys2Proof/Word.lean ====
section
/-! DEFINITION. The word types of the Mobrivel PX-410: bytes, halfwords and words, little-endian in host memory and in link
frames (00_scope.md, section 1.5). -/

namespace Sys2Proof

/-- One byte of host memory or of a link frame. -/
abbrev Byte := BitVec 8

/-- A 16-bit field. -/
abbrev Half := BitVec 16

/-- A 32-bit register, tag or time in floor seconds. -/
abbrev Word := BitVec 32

end Sys2Proof
end

