-- ==== Sys2Proof/Syntax.lean ====
section
/-! DEFINITION. The commands of the part: one constructor per row of spec/opcode_table.json, in the table's order, with the
operands that the row's rule gives the event. -/

namespace Sys2Proof

/-- A bench, B0 to B3 (Table 0-1). -/
abbrev Bench := Fin 4
/-- A port: 2b and 2b+1 are bench b's own ports, 8 and 9 the shared ports of pair 0 and pair 1 (Table 0-1). -/
abbrev Port := Fin 10
/-- A put position, 16b + p (Table 0-1). -/
abbrev PutPos := Fin 64

/-- An event that a second of the floor clock may bring, named as a row of its own in the table. -/
inductive TimedEvent where
  | deadline (pos : PutPos)
  | warning (card : Nat)
  | recall (card : Nat)
  | readyWait (card : Nat)
deriving DecidableEq, Repr

/-- The commands. A read return names the read by the number the PAU gave it (`read`). -/
inductive Instr where
  /-- A CONTROL write whose CLEAR bit is 0 (R188). -/
  | run (value : Word)
  /-- A CONTROL write whose CLEAR bit is 1 (R193). -/
  | clear (value : Word)
  /-- A CONTROL write whose CLEAR bit is 0, seen for its NOTICE_ENABLE bit (R184, R188). -/
  | noticeEnable (value : Word)
  | areaLo (value : Word)
  | areaHi (value : Word)
  | edition (value : Word)
  | events (value : Word)
  | eventMask (value : Word)
  /-- A write to `offset` with these byte enables that R1 discards. -/
  | registerWriteDiscarded (offset : BitVec 12) (enables : BitVec 4) (value : Word)
  | powerOnReset
  | busReset
  /-- The 256 bytes of the Settings Block return. -/
  | settingsReadReturn (read : Nat) (data : List Byte)
  | readBusError (read : Nat)
  | readTimeout (read : Nat)
  | stampReadReturn (read : Nat) (stamp : Word)
  /-- Bytes 80h to FFh of the Settings Block return. -/
  | liveSettingsReadReturn (read : Nat) (data : List Byte)
  | starvedChainReadReturn (read : Nat) (value : Half)
  | cardFlagsReadReturn (read : Nat) (flags : Byte)
  | orderFlagsReadReturn (read : Nat) (flags : Byte)
  | linkStepReadReturn (read : Nat) (value : Half)
  /-- Bytes 00h to 3Fh of a card return. -/
  | cardReadReturn (read : Nat) (data : List Byte)
  | tagTableReadReturn (read : Nat) (entry : Word)
  /-- Bytes 00h to 1Fh of an order record return. -/
  | orderRecordReadReturn (read : Nat) (data : List Byte)
  | timedSweepTimerExpiry
  /-- One second of the floor clock. The events listed in `apart` are not taken in this step: they come as commands of
  their own, because at one moment either of two events may be taken first (R137). -/
  | floorClockAdvance (apart : List TimedEvent)
  | deadlinePassed (pos : PutPos)
  | exposureWarning (card : Nat)
  | exposureRecall (card : Nat)
  | readyWaitPasses (card : Nat)
  | answerTimerExpiry (call : Nat)
  | retryGapExpiry (call : Nat)
  | inquiryTimerExpiry (call : Nat)
  | transitTimeout (call : Nat)
  | tenureTimeout
  | gateSwingEnd
  | returnHoldEnd
  | dispatchHoldRefresh (port : Port)
  | holdExpiry (port : Port)
  | gridLinkDown
  | gridIdleLineCheck
  | gridFrameSent
  /-- The bytes of the unfinished frame, its sync byte first. -/
  | gridFrameGapTimeout (bytes : List Byte)
  /-- The bytes of the frame that fails a check of R158, its sync byte first. -/
  | gridFrameError (bytes : List Byte)
  | gridLineCheck
  | callAccept (call : Half)
  | callRefuse (call : Half) (reason : Byte)
  | dispatched (call : Half)
  | callStatus (call : Half) (status : Byte)
  | arrived (port : Byte) (tag : Word)
  | docked (port : Byte) (tag : Word)
  | departed (port : Byte) (tag : Word)
  | recircRequest
  | recircClear
  | returnHold (q : Half)
  | benchLinkDown (bench : Bench)
  | benchIdleLineCheck (bench : Bench)
  | benchFrameSent (bench : Bench)
  | benchFrameGapTimeout (bench : Bench) (bytes : List Byte)
  | benchFrameError (bench : Bench) (bytes : List Byte)
  | benchLineCheck (bench : Bench)
  | signOn (bench : Bench) (picker : Half)
  | signOff (bench : Bench)
  | breakOff (bench : Bench)
  | back (bench : Bench)
  | place (bench : Bench) (p : Byte) (tag : Word)
  | remove (bench : Bench) (p : Byte)
  | full (bench : Bench) (p : Byte)
  | pick (bench : Bench) (port : Byte) (p : Byte) (qty : Byte)
  | short (bench : Bench) (port : Byte)
  | toteDone (bench : Bench) (port : Byte)
deriving DecidableEq, Repr

end Sys2Proof
end

