-- ==== Sys2Proof/Decode.lean ====
section
/-! DEFINITION. Decoding. The opcode table gives no row any bits, so `decodeTableWord` answers none. What the part does
decode is link frames: the CRC and the checks of R158 with the message types of Tables 10-2 and 11-1, read into commands. -/

namespace Sys2Proof

/-- The table gives no row of this part any bits: no word spells a command. -/
def decodeTableWord (_nbits _w : Nat) : Option Instr := none

/-- A little-endian field as a number (00_scope.md, section 1.5). -/
def bytesToNat : List Byte → Nat
  | [] => 0
  | b :: bs => b.toNat + 256 * bytesToNat bs

/-- `width` bytes of a number, little-endian. -/
def natToBytes : Nat → Nat → List Byte
  | 0, _ => []
  | k + 1, n => BitVec.ofNat 8 n :: natToBytes k (n / 256)

/-- The field of `len` bytes at `off`. -/
def field (data : List Byte) (off len : Nat) : Nat := bytesToNat ((data.drop off).take len)

/-- The sync byte of a frame (Table 1-17). -/
def syncByte : Byte := 0xC5

/-- One bit of the CRC-16 with polynomial 1021h, most significant bit first (Table 1-17). -/
def crcBit (c : Half) : Half := if c.msb then (c <<< 1) ^^^ 0x1021 else c <<< 1

def crcByte (c : Half) (b : Byte) : Half :=
  (crcBit ∘ crcBit ∘ crcBit ∘ crcBit ∘ crcBit ∘ crcBit ∘ crcBit ∘ crcBit) (c ^^^ (b.zeroExtend 16 <<< 8))

/-- The CRC over type, length and payload, initial value FFFFh, no reflection, no final XOR (Table 1-17). -/
def crc16 (bytes : List Byte) : Half := bytes.foldl crcByte 0xFFFF

/-- The frame that carries a message: sync, type, length, payload, CRC low byte first (Table 1-17). -/
def frameBytes (ty : Byte) (payload : List Byte) : List Byte :=
  let covered := ty :: BitVec.ofNat 8 payload.length :: payload
  syncByte :: covered ++ natToBytes 2 (crc16 covered).toNat

/-- What the receive assembler makes of the bytes collected from a sync byte on (R158). -/
inductive FrameVerdict where
  | notOneFrame
  | incomplete
  | dropped
  | good (ty : Byte) (payload : List Byte)
deriving DecidableEq, Repr

/-- R158: a length above 48 drops the frame at once; a complete frame is checked for its CRC, its type and the payload
length of that type, in that order. -/
def frameVerdict (payloadLength : Byte → Option Nat) (bytes : List Byte) : FrameVerdict :=
  match bytes with
  | sync :: ty :: len :: rest =>
    if sync ≠ syncByte then .notOneFrame
    else if 48 < len.toNat then (if rest = [] then .dropped else .notOneFrame)
    else if rest.length < len.toNat + 2 then .incomplete
    else if len.toNat + 2 < rest.length then .notOneFrame
    else if field rest len.toNat 2 ≠ (crc16 (ty :: len :: rest.take len.toNat)).toNat then .dropped
    else match payloadLength ty with
      | none => .dropped
      | some n => if n = len.toNat then .good ty (rest.take len.toNat) else .dropped
  | sync :: _ => if sync = syncByte then .incomplete else .notOneFrame
  | [] => .notOneFrame

/-- Hunting: the bytes before the next sync byte are passed over (R158). -/
def hunt (bytes : List Byte) : List Byte := bytes.dropWhile (fun b => b != syncByte)

/-- The bytes of a frame whose payload has `payload` bytes: sync, type, length, payload and CRC (Table 1-17). -/
def frameLength (payload : Nat) : Nat := payload + 5

/-- The bytes that the assembler collects before it judges the frame that `bytes` begin: the length byte comes third, and one
above 48 drops the frame at once (R158). -/
def judgedLength : List Byte → Nat
  | _ :: _ :: len :: _ => if 48 < len.toNat then 3 else frameLength len.toNat
  | _ => 3

/-- The payload length of each grid-to-part type (Table 10-2). -/
def gridPayloadLength (ty : Byte) : Option Nat :=
  match ty.toNat with
  | 0x00 => some 0
  | 0x21 => some 2
  | 0x22 => some 3
  | 0x23 => some 2
  | 0x24 => some 6
  | 0x25 => some 6
  | 0x26 => some 6
  | 0x27 => some 0
  | 0x28 => some 0
  | 0x29 => some 2
  | 0x2A => some 3
  | _ => none

/-- The payload length of each panel-to-part type (Table 11-1). -/
def panelPayloadLength (ty : Byte) : Option Nat :=
  match ty.toNat with
  | 0x00 => some 0
  | 0x41 => some 2
  | 0x42 => some 0
  | 0x43 => some 0
  | 0x44 => some 0
  | 0x45 => some 6
  | 0x46 => some 1
  | 0x47 => some 1
  | 0x48 => some 3
  | 0x49 => some 1
  | 0x4A => some 1
  | _ => none

/-- The command that a good frame of the Grid Link is (Table 10-2). -/
def gridMessage (ty : Byte) (payload : List Byte) : Option Instr :=
  let half := BitVec.ofNat 16 (field payload 0 2)
  let byte0 := BitVec.ofNat 8 (field payload 0 1)
  let byte2 := BitVec.ofNat 8 (field payload 2 1)
  let tag := BitVec.ofNat 32 (field payload 2 4)
  match ty.toNat with
  | 0x00 => some .gridLineCheck
  | 0x21 => some (.callAccept half)
  | 0x22 => some (.callRefuse half byte2)
  | 0x23 => some (.dispatched half)
  | 0x24 => some (.arrived byte0 tag)
  | 0x25 => some (.docked byte0 tag)
  | 0x26 => some (.departed byte0 tag)
  | 0x27 => some .recircRequest
  | 0x28 => some .recircClear
  | 0x29 => some (.returnHold half)
  | 0x2A => some (.callStatus half byte2)
  | _ => none

/-- The command that a good frame of bench b's panel is (Table 11-1). -/
def panelMessage (b : Bench) (ty : Byte) (payload : List Byte) : Option Instr :=
  let byte (n : Nat) : Byte := BitVec.ofNat 8 (field payload n 1)
  match ty.toNat with
  | 0x00 => some (.benchLineCheck b)
  | 0x41 => some (.signOn b (BitVec.ofNat 16 (field payload 0 2)))
  | 0x42 => some (.signOff b)
  | 0x43 => some (.breakOff b)
  | 0x44 => some (.back b)
  | 0x45 => some (.place b (byte 0) (BitVec.ofNat 32 (field payload 2 4)))
  | 0x46 => some (.remove b (byte 0))
  | 0x47 => some (.full b (byte 0))
  | 0x48 => some (.pick b (byte 0) (byte 1) (byte 2))
  | 0x49 => some (.short b (byte 0))
  | 0x4A => some (.toteDone b (byte 0))
  | _ => none

/-- The bytes of one frame received from the grid, read into its command; none when the frame is not good. -/
def decodeGridFrame (bytes : List Byte) : Option Instr :=
  match frameVerdict gridPayloadLength bytes with
  | .good ty payload => gridMessage ty payload
  | _ => none

/-- The bytes of one frame received from bench b's panel, read into its command; none when the frame is not good. -/
def decodePanelFrame (b : Bench) (bytes : List Byte) : Option Instr :=
  match frameVerdict panelPayloadLength bytes with
  | .good ty payload => panelMessage b ty payload
  | _ => none

/-- R158: the commands that collected bytes spell, and the bytes that are then still held. After a good frame hunting goes on
at the byte behind its CRC, after a dropped one at the byte behind its sync byte. `fuel` bounds the number of frames. -/
def assemble (payloadLength : Byte → Option Nat) (message : Byte → List Byte → Option Instr)
    (frameError : List Byte → Instr) : Nat → List Byte → List Instr × List Byte
  | 0, bytes => ([], hunt bytes)
  | fuel + 1, bytes =>
    let b := hunt bytes
    let frame := b.take (judgedLength b)
    if b.length < judgedLength b then ([], b)
    else match frameVerdict payloadLength frame with
      | .good ty payload =>
        let later := assemble payloadLength message frameError fuel (b.drop frame.length)
        ((message ty payload).toList ++ later.1, later.2)
      | _ =>
        let later := assemble payloadLength message frameError fuel b.tail
        (frameError frame :: later.1, later.2)

/-- The commands that bytes from the grid spell, behind those the assembler holds (R158). -/
def gridCommands (held bytes : List Byte) : List Instr × List Byte :=
  assemble gridPayloadLength gridMessage .gridFrameError (held ++ bytes).length (held ++ bytes)

/-- The commands that bytes from bench b's panel spell, behind those the assembler holds (R158, R171). -/
def panelCommands (b : Bench) (held bytes : List Byte) : List Instr × List Byte :=
  assemble panelPayloadLength (panelMessage b) (.benchFrameError b) (held ++ bytes).length (held ++ bytes)

end Sys2Proof
end

