-- ==== Sys2Proof/Config.lean ====
section
/-! DEFINITION. What the part fixes once and for all (capacities and fixed durations, each with its rule) and the free
values: what the manual leaves open, as constants with no body. -/

namespace Sys2Proof.Config

/-- Reads the PAU holds in flight (R5). -/
def readsInFlight : Nat := 32
/-- Entries of the tag cache (R23). -/
def cacheEntries : Nat := 16
/-- Lookups the miss list holds (R25). -/
def missEntries : Nat := 8
/-- Cards one staging list holds (R46). -/
def stagingEntries : Nat := 8
/-- Messages the Grid Link's transmit queue holds (R156). -/
def gridQueue : Nat := 128
/-- Messages a Bench Link's transmit queue holds (R172). -/
def benchQueue : Nat := 64
/-- Call numbers, 0 to 4095 (R80). -/
def callNumbers : Nat := 4096

/-- The model's unit of time below the second is 50 ms, the greatest common measure of every such time the manual gives.
One decisecond is two units. DESIGN CHOICE, log entry 2. -/
def ticksPerDs : Nat := 2
/-- A quarter-second, the unit of the sweep interval (R14), is five units. -/
def ticksPerQuarter : Nat := 5
/-- 2 s: the answer timer (R82), the inquiry timer (R87) and the silence limit of a link (R159). -/
def ticksTwoSeconds : Nat := 40
/-- 5 ds: the idle limit of a link (R157). -/
def ticksIdle : Nat := 10

/-- FREE VALUE. Which of several calls that the Call Selector may make at one event is made first: R79 and R118 say that
either may be taken first. Read at a fresh number each time; the pick is this value modulo the number of calls open to
choice. Log entry 5. -/
opaque freeChoice : Nat → Nat

/-- FREE VALUE. What the tag field of the fault capture holds after an exception that names no tag: R185 clears the
tag-present bit and states no value. Log entry 6. -/
opaque absentTag : Nat → BitVec 32

end Sys2Proof.Config
end

