-- ==== Sys2Proof/Machine/State.lean ====
section
/-! DEFINITION. The state of the part, block by block (00_scope.md, Table 0-2), and the state right after power-on reset. -/

namespace Sys2Proof.Machine

/-! ## The Plan Access Unit (chapters 1 and 13) -/

/-- Table 13-1; the codes of R2. -/
inductive RunState where
  | stopped | starting | running | draining | faulted
deriving DecidableEq, Repr

/-- R2: the cause of the last reset or Clear. -/
inductive ResetCause where
  | powerOn | busReset | clear
deriving DecidableEq, Repr

/-- The structural settings (Table 1-7, bytes 04h to 7Fh), as taken at STARTING. -/
structure Structural where
  clockBase : Word
  cardPool : Nat
  orderBoard : Nat
  tagTable : Nat
  statusBlock : Nat
  cardCount : Nat
  orderCount : Nat
  tagBase : Nat
  tagExp : Nat
  enableMask : Byte
  ownPorts : Vector Nat 4
  sharedMode : Vector Nat 2
  lendSource : Vector Nat 2
  laneDepth : Vector Nat 10
deriving DecidableEq, Repr

/-- The live settings (Table 1-7, bytes 80h to FFh). -/
structure Live where
  sweepCode : Nat
  retryCode : Nat
  retryGap : Nat
  rotationK : Nat
  chilledBudget : Nat
  frozenBudget : Nat
  chilledMode : Nat
  frozenMode : Nat
  chilledGrace : Nat
  frozenGrace : Nat
  rushMargin : Nat
  readyWait : Nat
  transitTimeout : Nat
  parking : Nat
  gateSwing : Nat
  tenureCode : Nat
  holdQuantum : Nat
  holdRefresh : Nat
  giveUp : Bool
  frozenPriority : Bool
  holdReaction : Bool
  resumeLapse : Bool
  holdOnBreak : Bool
  suppressPrior : Bool
  vectorCount : Nat
  noticeData : Nat
  noticeAddr : Nat
deriving DecidableEq, Repr

/-- The two kinds of sweep; an edition sweep carries the value it sweeps (R13, R14). -/
inductive SweepKind where
  | edition (value : Word)
  | timed
deriving DecidableEq, Repr

/-- The stage whose reads a sweep in flight waits for (Table 1-5; stage 1 has two reads in turn, R11). -/
inductive SweepStage where
  | stamp | liveSettings | starved | cardFlags | orderFlags
deriving DecidableEq, Repr

structure Sweep where
  kind : SweepKind
  stage : SweepStage
deriving DecidableEq, Repr

structure Pau where
  /-- RUN and NOTICE_ENABLE of CONTROL (R1). -/
  run : Bool
  noticeEnable : Bool
  runState : RunState
  resetCause : ResetCause
  /-- The settings error code of STATUS (R2). -/
  errorCode : Nat
  areaLo : Word
  areaHi : Word
  /-- R4. -/
  writtenEdition : Word
  completedEdition : Word
  editionDue : Bool
  /-- A drain due while STARTING (R188). -/
  drainDue : Bool
  /-- The stamp last taken (R9, R11). -/
  stampTaken : Option Word
  /-- The settings taken since the last power-on or bus reset (R9, R10, R193). -/
  structural : Option Structural
  live : Option Live
  /-- R190. -/
  floorClock : Word
  /-- The sweep in flight (R13). -/
  sweep : Option Sweep
  /-- The timed-sweep timer, in units of 50 ms to its expiry; none when stopped (R14). -/
  sweepTimer : Option Nat
  /-- The write sequence counter of the Status Block (R19). -/
  writeSeq : Word
deriving DecidableEq, Repr

/-! ## Host-memory access (section 1.2) -/

/-- What a read is for: the block that asked, and what it needs when the data returns. -/
inductive ReadFor where
  | settings
  | stamp
  | liveSettings
  | starved (b : Bench) (atAnchor : Bool) (cursor : Option Nat)
  | cardFlags (card : Nat) (seq : Word)
  /-- `held` turns false when the binding that the read was made for ends (R16, R68). -/
  | orderFlags (pos : PutPos) (order : Nat) (held : Bool)
  | linkStep (b : Bench) (cursor : Option Nat)
  | cardStep (b : Bench) (card : Nat)
  | tagEntry (tag : Word)
  | orderRecord (pos : PutPos) (order : Nat)
deriving DecidableEq, Repr

/-- A read handed to the PAU. `discarded`: its data and a bus error on it are to be ignored (R6). -/
structure Read where
  id : Nat
  purpose : ReadFor
  addr : Nat
  len : Nat
  discarded : Bool
deriving DecidableEq, Repr

/-- A posted write to host memory. -/
structure HostWrite where
  addr : Nat
  data : List Byte
deriving DecidableEq, Repr

/-- The endpoint's traffic: the reads in request order (the first 32 are in flight, the others wait, R5), the number the
next read gets, and every write the part has posted, oldest first. -/
structure Bus where
  reads : List Read
  nextRead : Nat
  posted : List HostWrite
deriving DecidableEq, Repr

/-! ## The Tag Translation Unit (chapter 2) -/

/-- What a table entry means (R27). -/
inductive Translation where
  | none
  | card (index : Nat)
  | order (index : Nat)
  | barred
deriving DecidableEq, Repr

/-- Table 2-1. -/
inductive LookupAnswer where
  | foreign
  | entry (t : Translation)
  | busy
deriving DecidableEq, Repr

/-- The identity a lookup carries (R22). -/
inductive Asker where
  | place (pos : PutPos)
  | arrival (port : Port)
deriving DecidableEq, Repr

structure CacheEntry where
  tag : Word
  meaning : Translation
deriving DecidableEq, Repr

/-- A lookup of the miss list (R25). `before`: it joined before the last flush that reached the read in flight. -/
structure Lookup where
  tag : Word
  asker : Asker
  before : Bool
deriving DecidableEq, Repr

/-- The tag in flight and whether its read is stale (R26, R30). -/
structure MissRead where
  tag : Word
  stale : Bool
deriving DecidableEq, Repr

structure Ttu where
  /-- Most recent first (R23). -/
  cache : List CacheEntry
  /-- Oldest first (R25). -/
  misses : List Lookup
  inFlight : Option MissRead
deriving DecidableEq, Repr

/-! ## Cards (chapter 3) -/

inductive CardClass where
  | ambient | chilled | frozen
deriving DecidableEq, Repr

/-- Card result codes (Table 1-9). -/
inductive CardResult where
  | pickedFull | pickedShort | cut | exposureRecall | withdrawn | callFailed | lostInTransit | benchClosed | drained
  | exposureSpent | badCard | orderAbsent
deriving DecidableEq, Repr

/-- Line result codes (Table 1-9). -/
inductive LineResult where
  | complete | short | cutByPicker | orderAbsent | orderFull | recalled | withdrawn | benchClosed | notPresented
deriving DecidableEq, Repr

/-- A used line of a held card (R34, R52), with its part of the presentation record (R92): the put position assigned to it
and whether its light is on. -/
structure Line where
  order : Nat
  qty : Nat
  picked : Nat
  remaining : Nat
  shortfall : Nat
  result : Option LineResult
  pos : Option PutPos
  lit : Bool
deriving DecidableEq, Repr

/-- A card context (R34). `bench` is the staging bench. -/
structure CardCtx where
  card : Nat
  seq : Word
  bench : Bench
  twin : Bool
  cls : CardClass
  tag : Word
  exposureUsed : Nat
  lines : List Line
  timeTaken : Word
  timeCalled : Option Word
  callAttempts : Nat
  timeArrived : Option Word
  portPresented : Option Port
  timePresented : Option Word
  adopted : Bool
  misrouted : Bool
  stuck : Bool
  lateArrival : Bool
  withdrawn : Bool
  recalled : Bool
  result : Option CardResult
  exposureTotal : Option Nat
deriving DecidableEq, Repr

/-- Table 3-2. -/
inductive ChainState where
  | atAnchor | following | starvedAtAnchor | starvedAtLink
deriving DecidableEq, Repr

/-- R35; a cursor of none is FFFFh. -/
structure Chain where
  state : ChainState
  cursor : Option Nat
  takeInFlight : Bool
deriving DecidableEq, Repr

structure Cdm where
  chains : Vector Chain 4
  /-- Oldest first (R46). -/
  staging : Vector (List CardCtx) 4
  /-- The number the next accepted card takes (R34). -/
  takeSeq : Word
deriving DecidableEq, Repr

/-! ## The put wall (chapter 4) -/

/-- Table 4-2. -/
inductive PosState where
  | empty | binding | bound | complete | full | closing
deriving DecidableEq, Repr

inductive BindStep where
  | lookup | read
deriving DecidableEq, Repr

/-- A position entry (R55). -/
structure Position where
  state : PosState
  order : Option Nat
  step : BindStep
  scanned : Word
  linesExpected : Nat
  deadline : Word
  linesCompleted : Nat
  unitsPut : Word
  timeBound : Word
  late : Bool
  stale : Bool
deriving DecidableEq, Repr

/-! ## Calls and lanes (chapters 5, 6 and 7) -/

/-- Table 5-1. -/
inductive CallState where
  | called | accepted | dispatched | uncertain | inquiring | cancelling
deriving DecidableEq, Repr

inductive CancelReason where
  | withdrawal | drain | benchClosed
deriving DecidableEq, Repr

/-- The answer, resend-gap and inquiry timers of a call, at most one of which runs (R81), in units of 50 ms to its expiry. -/
inductive CallTimer where
  | none
  | answer (left : Nat)
  | gap (left : Nat)
  | inquiry (left : Nat)
deriving DecidableEq, Repr

/-- A call record (R81). `transit` is the transit timer, in floor seconds to its expiry; none when stopped. -/
structure Call where
  number : Nat
  card : CardCtx
  port : Port
  state : CallState
  retries : Nat
  exhausted : Bool
  dispatchSeen : Bool
  transitExpired : Bool
  inquiries : Nat
  cancel : Option CancelReason
  timer : CallTimer
  transit : Option Nat
deriving DecidableEq, Repr

inductive EntryKind where
  | called | adopted | stranger
deriving DecidableEq, Repr

/-- Table 6-1. -/
inductive EntryState where
  | queued | presenting | waitingBench | ended | releasing | stuck
deriving DecidableEq, Repr

/-- A lane entry (R92). -/
structure Entry where
  tag : Word
  card : Option CardCtx
  kind : EntryKind
  state : EntryState
deriving DecidableEq, Repr

structure Lnc where
  /-- The call tables of all ports, in the order in which the calls were made (R93). -/
  calls : List Call
  /-- The last call number given (R80). -/
  lastCall : Nat
  /-- One lane per port, head first (R92). -/
  lanes : Vector (List Entry) 10
deriving DecidableEq, Repr

/-! ## Exposure (chapter 8) -/

/-- An exposure record (R128). A point of none is not reached at any exposure (R127). -/
structure Exposure where
  card : Nat
  seq : Word
  cls : CardClass
  base : Nat
  elapsed : Nat
  warnAt : Option Nat
  recallAt : Option Nat
  port : Port
  warned : Bool
  recalled : Bool
  overdue : Bool
deriving DecidableEq, Repr

/-! ## The return merge (chapter 9) -/

inductive Requester where
  | port (p : Port)
  | recirc
deriving DecidableEq, Repr

/-- Table 9-1, each state with what it holds (R142). The swing timer is in units of 50 ms, the tenure timer in floor
seconds. `withdrawn`: the target's request has been withdrawn since the swing began (R146). -/
inductive Merge where
  | idle
  | swinging (target : Requester) (left : Nat) (withdrawn : Bool)
  | swung (target : Requester)
  | tenure (holder : Requester) (left : Option Nat)
deriving DecidableEq, Repr

/-- A release request (R106, R140). -/
structure Request where
  port : Port
  tag : Word
  recalled : Bool
  frozen : Bool
deriving DecidableEq, Repr

structure Mga where
  merge : Merge
  requests : List Request
  recircFlag : Bool
  recircTimedOut : Bool
  parked : Option Requester
  lastPort : Port
  portCount : Nat
  /-- The return-hold timer, in units of 50 ms (R150). -/
  holdTimer : Nat
deriving DecidableEq, Repr

/-! ## The links (chapters 10 and 11) -/

/-- Table 10-1. -/
inductive GridMsg where
  | lineCheck
  | call (number : Nat) (port : Port) (tag : Word)
  | callCancel (number : Nat)
  | inquire (number : Nat)
  | release (port : Port) (tag : Word)
  | recircGrant
  | dispatchHold (port : Port) (quantum : Nat)
deriving DecidableEq, Repr

inductive Staffing where
  | closed | staffed | onBreak
deriving DecidableEq, Repr

/-- The cues of PORT_CUE (Table 11-2). -/
inductive Cue where
  | exposure | release
deriving DecidableEq, Repr

/-- ACCEPT and the REJECT reasons (Table 11-3). -/
inductive Reason where
  | accept | busy | occupied | unknownTote | alreadyBound | wrongBench | cancelled | notPresenting | wrongPut | over | late
  | notStaffed | outOfRange | wrongState | notEnabled
deriving DecidableEq, Repr

/-- The panel messages that are answered (Table 11-1). -/
inductive PanelType where
  | signOn | signOff | breakOff | back | place | remove | full | pick | short | toteDone
deriving DecidableEq, Repr

/-- Table 11-2. Positions are the bench's own, 0 to 15; FFh stands for none in an ANSWER. -/
inductive BenchMsg where
  | lineCheck
  | showLine (port : Port) (p : Nat) (qty : Nat)
  | unshowLine (port : Port) (p : Nat)
  | closeCue (p : Nat)
  | portCue (port : Port) (cue : Cue)
  | answer (ticket : Byte) (ty : PanelType) (port : Byte) (p : Byte) (reason : Reason)
  | panelReset (staffing : Staffing) (picker : Half)
deriving DecidableEq, Repr

/-- A serial link (R155, R170). `silence` and `idle` count units of 50 ms; `held` is the receive assembler, the bytes
collected from a sync byte on, empty while it hunts; `sending` is the frame on the wire; `lineCheckDue` says that a
LINE_CHECK waits for it to end (R157). -/
structure Link (M : Type) where
  up : Bool
  silence : Nat
  idle : Nat
  held : List Byte
  queue : List M
  sending : Option M
  lineCheckDue : Bool
deriving DecidableEq, Repr

/-- The dispatch hold of one port (R155, R165): HOLDING or FLOWING, its two timers in units of 50 ms, and whether the port
was found to want a hold when the condition was last found (R164). -/
structure PortHold where
  holding : Bool
  refresh : Option Nat
  expiry : Option Nat
  wants : Bool
deriving DecidableEq, Repr

structure Glc where
  link : Link GridMsg
  holds : Vector PortHold 10
deriving DecidableEq, Repr

/-- The awaited message of a bench (R170). -/
structure Awaited where
  ty : PanelType
  port : Byte
  p : Byte
  ticket : Byte
deriving DecidableEq, Repr

structure Blc where
  link : Link BenchMsg
  staffing : Staffing
  picker : Half
  awaited : Option Awaited
  lastTicket : Byte
deriving DecidableEq, Repr

/-! ## The Notice Unit (chapter 12) -/

/-- The events of Table 12-1. -/
inductive Event where
  | cardDone | orderClosed | sweepDone | exception | exposure | settingsRefused | staffing | lateOrder | gridLink
  | benchLink | runState
deriving DecidableEq, Repr

/-- The exception kinds (Table 1-15). -/
inductive ExcKind where
  | checkFail | badCard | misroute | unmatchedArrival | laneOverrun | callRetryExhausted | lostInTransit | gridProtocol
  | tenureTimeout | exposureOverdue | removedEarly | shortReported | settingsRefused | busError
deriving DecidableEq, Repr

/-- The fault capture record (Table 1-15, R185). A bench of none is FFh, a card or order of none FFFFh; the port is the
byte reported, FFh for none. -/
structure Capture where
  kind : Option ExcKind
  bench : Option Bench
  port : Byte
  tagPresent : Bool
  card : Option Nat
  order : Option Nat
  tag : Word
  time : Word
  later : Word
deriving DecidableEq, Repr

/-- The counters of one bench (Table 1-16). -/
structure BenchCounters where
  presentations : Word
  unitsPut : Word
  linesComplete : Word
  linesShort : Word
  linesCut : Word
  exposureWarns : Word
  recalls : Word
  misroutes : Word
  dwell : Vector Word 6
deriving DecidableEq, Repr

/-- The statistics counters (R186). -/
structure Counters where
  calls : Word
  refusals : Word
  retries : Word
  callFailures : Word
  transitLosses : Word
  mergeGrants : Word
  recircGrants : Word
  tenureTimeouts : Word
  returnHolds : Word
  dispatchHolds : Word
  gridFrameErrors : Word
  benchFrameErrors : Vector Word 4
  bench : Vector BenchCounters 4
deriving DecidableEq, Repr

structure Ntu where
  /-- EVENTS and EVENT_MASK, bits 10:0 (R181, R182). -/
  events : BitVec 11
  mask : BitVec 11
  /-- The signal condition of each vector as last found (R183). -/
  signals : Vector Bool 4
  capture : Capture
  counters : Counters
deriving DecidableEq, Repr

/-! ## The machine -/

/-- The state of the part. `pending` is the queue of commands that wait, first in, first out; `freeCount` numbers the free
values read so far (the model's own, log entries 5 and 6). -/
structure State where
  pau : Pau
  bus : Bus
  ttu : Ttu
  cdm : Cdm
  /-- The put position table (R55). -/
  wall : Vector Position 64
  lnc : Lnc
  /-- The last-lent bench of each pair's shared port (R115). -/
  lastLent : Vector Bench 2
  /-- The exposure records (R128). -/
  exposures : List Exposure
  mga : Mga
  glc : Glc
  blc : Vector Blc 4
  ntu : Ntu
  freeCount : Nat
  pending : List Instr
deriving DecidableEq, Repr

/-- The faults of a step. -/
inductive Fault where
  /-- A read return whose data is not as long as the read: raised by the four read returns that carry a byte list. No such
  command can occur at the part (`Instr.wellFormed`). Safe: the model stops where the part cannot go. Log entry 7. -/
  | readDataLength
deriving DecidableEq, Repr

/-- The refusals of a step. -/
inductive Refusal where
  /-- Raised by exec for a command that has no meaning yet; no arm raises it. Safe. -/
  | notModelled (mnemonic : String)
deriving DecidableEq, Repr

/-- The answer of a meaning and of a step. -/
abbrev Out := Host.Outcome State Fault Refusal

/-! ## Reset values -/

def Ttu.initial : Ttu := { cache := [], misses := [], inFlight := none }

def Chain.initial : Chain := { state := .atAnchor, cursor := none, takeInFlight := false }

/-- R54. -/
def Cdm.initial : Cdm :=
  { chains := .replicate 4 Chain.initial, staging := .replicate 4 [], takeSeq := 0 }

/-- An EMPTY position (R55). -/
def Position.empty : Position :=
  { state := .empty, order := none, step := .lookup, scanned := 0, linesExpected := 0, deadline := 0,
    linesCompleted := 0, unitsPut := 0, timeBound := 0, late := false, stale := false }

/-- R91, R113: no call, the last number given 4095, every lane empty. -/
def Lnc.initial : Lnc := { calls := [], lastCall := 4095, lanes := .replicate 10 [] }

/-- R115: the upper bench of each pair. -/
def lastLentInitial : Vector Bench 2 := #v[1, 3]

/-- Table 9-2. -/
def Mga.initial : Mga :=
  { merge := .idle, requests := [], recircFlag := false, recircTimedOut := false, parked := none, lastPort := 9,
    portCount := 0, holdTimer := 0 }

/-- A link after a reset: DOWN, hunting, its queue empty, its timers from zero (R155, R170). -/
def Link.initial {M : Type} : Link M :=
  { up := false, silence := 0, idle := 0, held := [], queue := [], sending := none, lineCheckDue := false }

def PortHold.flowing : PortHold := { holding := false, refresh := none, expiry := none, wants := false }

def Glc.initial : Glc := { link := Link.initial, holds := .replicate 10 PortHold.flowing }

/-- R170. -/
def Blc.initial : Blc :=
  { link := Link.initial, staffing := .closed, picker := 0, awaited := none, lastTicket := 255 }

/-- R185: kind none, every field none, tag, time and count 0. -/
def Capture.initial : Capture :=
  { kind := none, bench := none, port := 0xFF, tagPresent := false, card := none, order := none, tag := 0, time := 0,
    later := 0 }

def BenchCounters.zero : BenchCounters :=
  { presentations := 0, unitsPut := 0, linesComplete := 0, linesShort := 0, linesCut := 0, exposureWarns := 0,
    recalls := 0, misroutes := 0, dwell := .replicate 6 0 }

def Counters.zero : Counters :=
  { calls := 0, refusals := 0, retries := 0, callFailures := 0, transitLosses := 0, mergeGrants := 0, recircGrants := 0,
    tenureTimeouts := 0, returnHolds := 0, dispatchHolds := 0, gridFrameErrors := 0,
    benchFrameErrors := .replicate 4 0, bench := .replicate 4 BenchCounters.zero }

def Ntu.initial : Ntu :=
  { events := 0, mask := 0, signals := .replicate 4 false, capture := Capture.initial, counters := Counters.zero }

/-- The PAU after power-on reset. No stamp has been taken then: R9 gives the stamp last taken no value before the first STARTING.
DESIGN CHOICE, log entry 33. -/
def Pau.initial : Pau :=
  { run := false, noticeEnable := false, runState := .stopped, resetCause := .powerOn, errorCode := 0, areaLo := 0,
    areaHi := 0, writtenEdition := 0, completedEdition := 0, editionDue := false, drainDue := false, stampTaken := none,
    structural := none, live := none, floorClock := 0, sweep := none, sweepTimer := none, writeSeq := 0 }

/-- The part right after power-on reset: every register at its reset value (Table 1-1), every block empty (R193). -/
def State.reset : State :=
  { pau := Pau.initial
    bus := { reads := [], nextRead := 0, posted := [] }
    ttu := Ttu.initial
    cdm := Cdm.initial
    wall := .replicate 64 Position.empty
    lnc := Lnc.initial
    lastLent := lastLentInitial
    exposures := []
    mga := Mga.initial
    glc := Glc.initial
    blc := .replicate 4 Blc.initial
    ntu := Ntu.initial
    freeCount := 0
    pending := [] }

end Sys2Proof.Machine
end

