-- ==== Sys2Proof/Machine/Ops.lean ====
section
/-! DEFINITION. The named operations that every block shares: the cluster plan (Table 0-1), the places of the records in host
memory, reads and posted writes, lanes, calls, held cards. -/

namespace Sys2Proof.Machine

/-! ## The cluster plan -/

def allBenches : List Bench := [0, 1, 2, 3]
def allPorts : List Port := [0, 1, 2, 3, 4, 5, 6, 7, 8, 9]
def allPositions : List PutPos := List.finRange 64

/-- Put position p of bench b is 16b + p. -/
def putPos (b : Bench) (p : Fin 16) : PutPos := ⟨16 * b.val + p.val, by omega⟩
/-- The bench of a put position. -/
def posBench (q : PutPos) : Bench := ⟨q.val / 16, by omega⟩
/-- The bench's own number of a put position, 0 to 15. -/
def posIndex (q : PutPos) : Nat := q.val % 16

/-- The pair of a bench. -/
def pairOf (b : Bench) : Fin 2 := ⟨b.val / 2, by omega⟩
def lowerBench (q : Fin 2) : Bench := ⟨2 * q.val, by omega⟩
def upperBench (q : Fin 2) : Bench := ⟨2 * q.val + 1, by omega⟩
def pairBenches (q : Fin 2) : List Bench := [lowerBench q, upperBench q]
/-- Port 8 for pair 0, port 9 for pair 1. -/
def sharedPort (q : Fin 2) : Port := ⟨8 + q.val, by omega⟩
/-- Bench b owns ports 2b and 2b+1. -/
def ownPorts (b : Bench) : List Port := [⟨2 * b.val, by omega⟩, ⟨2 * b.val + 1, by omega⟩]
/-- The ports a bench reaches: its own and the shared port of its pair (R101). -/
def reachedPorts (b : Bench) : List Port := ownPorts b ++ [sharedPort (pairOf b)]
/-- The bench of an own port; none for a shared port. -/
def portBench (p : Port) : Option Bench := if h : p.val < 8 then some ⟨p.val / 2, by omega⟩ else none
/-- The pair of a shared port; none for an own port. -/
def portPair (p : Port) : Option (Fin 2) := if h : 8 ≤ p.val then some ⟨p.val - 8, by omega⟩ else none
/-- The benches at a port: its bench, or both benches of the pair. -/
def portBenches (p : Port) : List Bench :=
  match portBench p with
  | some b => [b]
  | none => match portPair p with
    | some q => pairBenches q
    | none => []
/-- A port number as a message carries it. -/
def portOfByte (b : Byte) : Option Port := if h : b.toNat < 10 then some ⟨b.toNat, h⟩ else none
/-- A position as a panel message carries it; none above 15. -/
def positionOfByte (b : Byte) : Option (Fin 16) := if h : b.toNat < 16 then some ⟨b.toNat, h⟩ else none

/-! ## Settings -/

/-- What holds while no settings are taken: no bench is enabled (R173), so no port is present. -/
def Structural.blank : Structural :=
  { clockBase := 0, cardPool := 0, orderBoard := 0, tagTable := 0, statusBlock := 0, cardCount := 0, orderCount := 0,
    tagBase := 0, tagExp := 0, enableMask := 0, ownPorts := .replicate 4 0, sharedMode := .replicate 2 0,
    lendSource := .replicate 2 0, laneDepth := .replicate 10 0 }

/-- What stands in for live settings that were never taken. No rule reads it: RUNNING and DRAINING come only after
STARTING has taken settings. -/
def Live.blank : Live :=
  { sweepCode := 0, retryCode := 0, retryGap := 0, rotationK := 0, chilledBudget := 0, frozenBudget := 0,
    chilledMode := 0, frozenMode := 0, chilledGrace := 0, frozenGrace := 0, rushMargin := 0, readyWait := 0,
    transitTimeout := 0, parking := 0, gateSwing := 0, tenureCode := 0, holdQuantum := 0, holdRefresh := 0,
    giveUp := false, frozenPriority := false, holdReaction := false, resumeLapse := false, holdOnBreak := false,
    suppressPrior := false, vectorCount := 0, noticeData := 0, noticeAddr := 0 }

def State.st (s : State) : Structural := s.pau.structural.getD Structural.blank
def State.live (s : State) : Live := s.pau.live.getD Live.blank
def State.clock (s : State) : Word := s.pau.floorClock

/-- RUNNING or DRAINING, the run states in which the floor clock counts and floor messages are taken. -/
def RunState.active : RunState → Bool
  | .running => true
  | .draining => true
  | _ => false

def State.active (s : State) : Bool := s.pau.runState.active

def Structural.benchEnabled (st : Structural) (b : Bench) : Bool := st.enableMask.getLsbD b.val

/-- A bench whose settings give it one own port has no port 2b+1; a shared port exists when its pair's mode is not OFF and
both benches are enabled (section 1.2, R114). -/
def Structural.portPresent (st : Structural) (p : Port) : Bool :=
  match portBench p with
  | some b => st.benchEnabled b && (p.val % 2 == 0 || st.ownPorts[b] == 2)
  | none => match portPair p with
    | some q => st.sharedMode[q] != 0 && (pairBenches q).all st.benchEnabled
    | none => false

/-- The benches whose ordinary cards a pair's shared port may take under TWIN_AND_LEND (R114). -/
def Structural.lendBenches (st : Structural) (q : Fin 2) : List Bench :=
  if st.sharedMode[q] = 2 then
    match st.lendSource[q] with
    | 0 => [lowerBench q]
    | 1 => [upperBench q]
    | _ => pairBenches q
  else []

/-- 1, 3, 7 or 15 retries for limit codes 0 to 3 (R83). -/
def Live.retryLimit (l : Live) : Nat := 2 ^ (l.retryCode + 1) - 1

/-- The modes of a cold class (Table 8-1). -/
inductive ColdMode where
  | warn | recall | warnThenRecall
deriving DecidableEq, Repr

def coldModeOf (code : Nat) : ColdMode :=
  match code with
  | 0 => .warn
  | 1 => .recall
  | _ => .warnThenRecall

def CardClass.cold : CardClass → Bool
  | .ambient => false
  | _ => true

def Live.mode (l : Live) (c : CardClass) : ColdMode := coldModeOf (if c = .frozen then l.frozenMode else l.chilledMode)
def Live.budget (l : Live) (c : CardClass) : Nat := if c = .frozen then l.frozenBudget else l.chilledBudget
def Live.grace (l : Live) (c : CardClass) : Nat := if c = .frozen then l.frozenGrace else l.chilledGrace

/-! ## Places in host memory -/

/-- The Plan Area base (R3). -/
def State.areaBase (s : State) : Nat := s.pau.areaHi.toNat * 2 ^ 32 + s.pau.areaLo.toNat
def State.anchorAddr (s : State) (b : Bench) : Nat := s.areaBase + 0x100 + 2 * b.val
def State.cardAddr (s : State) (card : Nat) : Nat := s.st.cardPool + 128 * card
def State.orderAddr (s : State) (order : Nat) : Nat := s.st.orderBoard + 64 * order
def State.tagAddr (s : State) (tag : Word) : Nat := s.st.tagTable + 4 * (tag.toNat - s.st.tagBase)

/-! ## Reads and posted writes -/

/-- A posted write (R5). -/
def post (addr : Nat) (data : List Byte) (s : State) : State :=
  { s with bus := { s.bus with posted := s.bus.posted ++ [{ addr := addr, data := data }] } }

/-- A read handed to the PAU: it joins the reads in request order (R5). -/
def issueRead (purpose : ReadFor) (addr len : Nat) (s : State) : State :=
  { s with bus := { s.bus with
      reads := s.bus.reads ++ [{ id := s.bus.nextRead, purpose := purpose, addr := addr, len := len, discarded := false }]
      nextRead := s.bus.nextRead + 1 } }

/-- The reads in flight: the first 32 of those requested (R5). -/
def State.readsInFlight (s : State) : List Read := s.bus.reads.take Config.readsInFlight

def State.findRead (s : State) (id : Nat) : Option Read := s.readsInFlight.find? (fun r => r.id == id)

/-- A read ends; the oldest waiting request, if any, is then in flight. -/
def endRead (id : Nat) (s : State) : State :=
  { s with bus := { s.bus with reads := s.bus.reads.filter (fun r => r.id != id) } }

/-- The return of a read's data: nothing when no read in flight has this number and kind; the data is dropped when the read
was discarded (R6); else `k` takes it. -/
def withRead {α : Type} (id : Nat) (kind : ReadFor → Option α) (k : α → State → State) (s : State) : State :=
  match s.findRead id with
  | none => s
  | some r => match kind r.purpose with
    | none => s
    | some a => if r.discarded then endRead id s else k a (endRead id s)

/-- R6, R18: every read in flight is left to end with its data discarded; a request not yet issued is not issued. -/
def discardReads (s : State) : State :=
  { s with bus := { s.bus with reads := s.readsInFlight.map (fun r => { r with discarded := true }) } }

/-! ## Blocks held in vectors -/

def State.chain (s : State) (b : Bench) : Chain := s.cdm.chains[b]
def setChain (b : Bench) (c : Chain) (s : State) : State := { s with cdm := { s.cdm with chains := s.cdm.chains.set b c } }
def State.staged (s : State) (b : Bench) : List CardCtx := s.cdm.staging[b]
def setStaged (b : Bench) (l : List CardCtx) (s : State) : State :=
  { s with cdm := { s.cdm with staging := s.cdm.staging.set b l } }
def State.position (s : State) (q : PutPos) : Position := s.wall[q]
def setPosition (q : PutPos) (p : Position) (s : State) : State := { s with wall := s.wall.set q p }
def State.lane (s : State) (p : Port) : List Entry := s.lnc.lanes[p]
def setLane (p : Port) (l : List Entry) (s : State) : State := { s with lnc := { s.lnc with lanes := s.lnc.lanes.set p l } }
def State.bench (s : State) (b : Bench) : Blc := s.blc[b]
def setBench (b : Bench) (c : Blc) (s : State) : State := { s with blc := s.blc.set b c }
def State.hold (s : State) (p : Port) : PortHold := s.glc.holds[p]
def setHold (p : Port) (h : PortHold) (s : State) : State := { s with glc := { s.glc with holds := s.glc.holds.set p h } }

/-! ## Calls -/

def State.findCall (s : State) (n : Nat) : Option Call := s.lnc.calls.find? (fun c => c.number == n)
/-- The call record replaced by `c` under its number. -/
def putCall (c : Call) (s : State) : State :=
  { s with lnc := { s.lnc with calls := s.lnc.calls.map (fun d => if d.number = c.number then c else d) } }
/-- The record leaves the call table, which frees its number and its reservation (R90). -/
def removeCall (n : Nat) (s : State) : State :=
  { s with lnc := { s.lnc with calls := s.lnc.calls.filter (fun d => d.number != n) } }
def State.portCalls (s : State) (p : Port) : List Call := s.lnc.calls.filter (fun c => c.port == p)
/-- Outstanding calls plus lane entries (R73). -/
def State.reservations (s : State) (p : Port) : Nat := (s.portCalls p).length + (s.lane p).length

/-! ## Lanes -/

/-- The head of a lane replaced. -/
def setHead (p : Port) (e : Entry) (s : State) : State := setLane p (e :: (s.lane p).tail) s
def State.head (s : State) (p : Port) : Option Entry := (s.lane p).head?
/-- The head entry is STUCK. -/
def State.headStuck (s : State) (p : Port) : Bool :=
  match s.head p with
  | some e => e.state == .stuck
  | none => false

/-! ## Held cards -/

/-- The cards of lane entries. -/
def State.laneCards (s : State) : List CardCtx := allPorts.flatMap (fun p => (s.lane p).filterMap (fun e => e.card))
/-- Every card context: in a staging list, in a call, in a lane entry (R33, R34). -/
def State.held (s : State) : List CardCtx :=
  allBenches.flatMap (fun b => s.staged b) ++ s.lnc.calls.map (fun c => c.card) ++ s.laneCards
/-- The part holds a card of this index (R39). -/
def State.holdsCard (s : State) (card : Nat) : Bool := s.held.any (fun c => c.card == card)
/-- The context of one taking. -/
def State.taking (s : State) (card : Nat) (seq : Word) : Option CardCtx :=
  s.held.find? (fun c => c.card == card && c.seq == seq)

/-- The card's bench set and, as a card of a shared port, its owning benches: both benches of the pair for a TWIN card, its
own bench otherwise (R75, R114). -/
def CardCtx.benches (c : CardCtx) : List Bench := if c.twin then pairBenches (pairOf c.bench) else [c.bench]

/-- The card names this taking. -/
def CardCtx.named (c : CardCtx) (card : Nat) (seq : Word) : Bool := c.card == card && c.seq == seq

/-- The context of one taking changed wherever it stands. -/
def updateTaking (card : Nat) (seq : Word) (f : CardCtx → CardCtx) (s : State) : State :=
  let g (c : CardCtx) : CardCtx := if c.named card seq then f c else c
  { s with
    cdm := { s.cdm with staging := s.cdm.staging.map (fun l => l.map g) }
    lnc := { s.lnc with
      calls := s.lnc.calls.map (fun c => { c with card := g c.card })
      lanes := s.lnc.lanes.map (fun l => l.map (fun e => { e with card := e.card.map g })) } }

end Sys2Proof.Machine
end

