-- ==== Sys2Proof/Machine/Operands.lean ====
section
/-! DEFINITION. The layouts of section 1.9: settings, cards, order records and tag table entries read from their bytes and
checked, and the result parts and link frames the part writes. -/

namespace Sys2Proof.Machine

/-- The code of the first failing check of a table, 0 when every check passes. -/
def firstFailing : List (Nat × Bool) → Nat
  | [] => 0
  | (code, ok) :: rest => if ok then firstFailing rest else code

def within (n lo hi : Nat) : Bool := decide (lo ≤ n) && decide (n ≤ hi)

/-! ## The Settings Block (Table 1-7) -/

def stampOf (data : List Byte) : Word := BitVec.ofNat 32 (field data 0 4)

/-- Bytes 04h to 7Fh of the Settings Block. -/
def parseStructural (data : List Byte) : Structural :=
  { clockBase := BitVec.ofNat 32 (field data 0x04 4)
    cardPool := field data 0x08 8
    orderBoard := field data 0x10 8
    tagTable := field data 0x18 8
    statusBlock := field data 0x20 8
    cardCount := field data 0x28 2
    orderCount := field data 0x2A 2
    tagBase := field data 0x2C 4
    tagExp := field data 0x30 1
    enableMask := BitVec.ofNat 8 (field data 0x31 1)
    ownPorts := Vector.ofFn (fun b : Fin 4 => field data (0x32 + b.val) 1)
    sharedMode := Vector.ofFn (fun q : Fin 2 => field data (0x36 + q.val) 1)
    lendSource := Vector.ofFn (fun q : Fin 2 => field data (0x38 + q.val) 1)
    laneDepth := Vector.ofFn (fun p : Fin 10 => field data (0x40 + p.val) 1) }

/-- The live settings, from a block that holds bytes 80h to FFh. -/
def parseLive (data : List Byte) : Live :=
  let flags : Byte := BitVec.ofNat 8 (field data 0x19 1)
  { sweepCode := field data 0x00 1
    retryCode := field data 0x01 1
    retryGap := field data 0x02 1
    rotationK := field data 0x03 1
    chilledBudget := field data 0x04 2
    frozenBudget := field data 0x06 2
    chilledMode := field data 0x08 1
    frozenMode := field data 0x09 1
    chilledGrace := field data 0x0A 2
    frozenGrace := field data 0x0C 2
    rushMargin := field data 0x0E 2
    readyWait := field data 0x10 2
    transitTimeout := field data 0x12 2
    parking := field data 0x14 1
    gateSwing := field data 0x15 1
    tenureCode := field data 0x16 1
    holdQuantum := field data 0x17 1
    holdRefresh := field data 0x18 1
    giveUp := flags.getLsbD 0
    frozenPriority := flags.getLsbD 1
    holdReaction := flags.getLsbD 2
    resumeLapse := flags.getLsbD 3
    holdOnBreak := flags.getLsbD 4
    suppressPrior := flags.getLsbD 5
    vectorCount := field data 0x1A 1
    noticeData := field data 0x1C 2
    noticeAddr := field data 0x20 8 }

/-- The five regions of the overlap check, as half-open byte ranges (R9). -/
def regions (base : Nat) (st : Structural) : List (Nat × Nat) :=
  [(base, base + 0x108), (st.cardPool, st.cardPool + 128 * st.cardCount),
   (st.orderBoard, st.orderBoard + 64 * st.orderCount), (st.tagTable, st.tagTable + 4 * 2 ^ st.tagExp),
   (st.statusBlock, st.statusBlock + 512)]

def disjointRegions (a b : Nat × Nat) : Bool := decide (a.2 ≤ b.1) || decide (b.2 ≤ a.1)

/-- No two regions overlap, and none passes the top of the 64-bit address space (R9). -/
def regionsApart : List (Nat × Nat) → Bool
  | [] => true
  | r :: rs => decide (r.2 ≤ 2 ^ 64) && rs.all (disjointRegions r) && regionsApart rs

/-- Table 1-3. -/
def structuralChecks (base : Nat) (st : Structural) : List (Nat × Bool) :=
  [(1, within st.cardCount 1 4096),
   (2, st.cardPool % 128 == 0),
   (3, within st.orderCount 1 1024),
   (4, st.orderBoard % 64 == 0),
   (5, within st.tagExp 10 18),
   (6, st.tagBase % 2 ^ st.tagExp == 0),
   (7, st.tagTable % 4 == 0),
   (8, st.statusBlock % 64 == 0),
   (9, within st.enableMask.toNat 1 15),
   (10, allBenches.all (fun b => !st.benchEnabled b || within st.ownPorts[b] 1 2)),
   (11, st.sharedMode.toList.all (fun m => within m 0 2)),
   (12, st.lendSource.toList.all (fun m => within m 0 2)),
   (13, allPorts.all (fun p => !st.portPresent p || within st.laneDepth[p] 1 4)),
   (14, regionsApart (regions base st))]

/-- Table 1-4. -/
def liveChecks (l : Live) : List (Nat × Bool) :=
  [(15, within l.chilledBudget 10 3600),
   (16, within l.frozenBudget 10 3600),
   (17, within l.chilledMode 0 2),
   (18, within l.frozenMode 0 2),
   (19, within l.chilledGrace 0 600),
   (20, within l.frozenGrace 0 600),
   (21, within l.rushMargin 0 7200),
   (22, within l.readyWait 0 3600),
   (23, within l.retryCode 0 3),
   (24, within l.retryGap 1 255),
   (25, within l.transitTimeout 5 1800),
   (26, within l.rotationK 0 3),
   (27, within l.parking 0 2),
   (28, within l.gateSwing 1 50),
   (29, within l.tenureCode 0 15),
   (30, within l.holdQuantum 2 255),
   (31, within l.holdRefresh 1 254 && decide (l.holdRefresh < l.holdQuantum)),
   (32, [1, 2, 4].contains l.vectorCount),
   (33, l.noticeAddr % 4 == 0)]

/-- The settings error code of a whole Settings Block: structural checks first, then live (R9). -/
def settingsError (base : Nat) (st : Structural) (l : Live) : Nat :=
  firstFailing (structuralChecks base st ++ liveChecks l)

/-- The settings error code of live settings alone (R11). -/
def liveError (l : Live) : Nat := firstFailing (liveChecks l)

/-! ## The check field (R8) -/

/-- The sum of little-endian halfwords. -/
def halfSum : List Byte → Nat
  | lo :: hi :: rest => lo.toNat + 256 * hi.toNat + halfSum rest
  | [lo] => lo.toNat
  | [] => 0

/-- R8: the halfwords of the covered bytes, the check included, sum to 0 modulo 65536. The covered bytes run from 02h to the
end of what is given: 3Fh of a card, 1Fh of an order record. -/
def checkCorrect (data : List Byte) : Bool := halfSum (data.drop 2) % 65536 == 0

/-! ## Cards (Table 1-9) -/

/-- The host part of a card as a take read returns it. -/
structure CardBytes where
  state : Nat
  twin : Bool
  withdraw : Bool
  checkOk : Bool
  bench : Nat
  cls : Nat
  lineCount : Nat
  exposureUsed : Nat
  tag : Word
  /-- Order index and quantity of each of the eight line slots. -/
  slots : List (Nat × Nat)
deriving DecidableEq, Repr

def parseCard (data : List Byte) : CardBytes :=
  let flags : Byte := BitVec.ofNat 8 (field data 0x01 1)
  { state := field data 0x00 1
    twin := flags.getLsbD 0
    withdraw := flags.getLsbD 1
    checkOk := checkCorrect data
    bench := field data 0x04 1
    cls := field data 0x05 1
    lineCount := field data 0x08 1
    exposureUsed := field data 0x0A 2
    tag := BitVec.ofNat 32 (field data 0x0C 4)
    slots := (List.range 8).map (fun n => (field data (0x10 + 4 * n) 2, field data (0x12 + 4 * n) 1)) }

/-- State POSTED of a card and of an order record. -/
def statePosted : Nat := 1

/-- The used line slots: the first line count, all eight when it is above 8 (R40). -/
def CardBytes.used (c : CardBytes) : List (Nat × Nat) := c.slots.take c.lineCount

def noRepeat : List Nat → Bool
  | [] => true
  | n :: rest => !rest.contains n && noRepeat rest

/-- The class codes of Table 1-9. -/
def classOf (code : Nat) : Option CardClass :=
  match code with
  | 0 => some .ambient
  | 1 => some .chilled
  | 2 => some .frozen
  | _ => none

/-- Checks 2 to 7 of R40, for a card taken on bench b's chain. -/
def CardBytes.fieldsGood (st : Structural) (b : Bench) (c : CardBytes) : Bool :=
  c.bench == b.val
  && (!c.twin || (b.val % 2 == 0 && st.portPresent (sharedPort (pairOf b))))
  && (classOf c.cls).isSome
  && within c.lineCount 1 8
  && c.used.all (fun l => decide (l.1 < st.orderCount))
  && noRepeat (c.used.map (fun l => l.1))
  && c.used.all (fun l => within l.2 1 250)

/-- R41. -/
def CardBytes.spent (l : Live) (c : CardBytes) : Bool :=
  match classOf c.cls with
  | some cls => cls.cold && l.mode cls != .warn && decide (l.budget cls ≤ c.exposureUsed)
  | none => false

def CardResult.code : CardResult → Nat
  | .pickedFull => 1 | .pickedShort => 2 | .cut => 3 | .exposureRecall => 4 | .withdrawn => 5 | .callFailed => 6
  | .lostInTransit => 7 | .benchClosed => 8 | .drained => 9 | .exposureSpent => 10 | .badCard => 11 | .orderAbsent => 12

def LineResult.code : LineResult → Nat
  | .complete => 1 | .short => 2 | .cutByPicker => 3 | .orderAbsent => 4 | .orderFull => 5 | .recalled => 6
  | .withdrawn => 7 | .benchClosed => 8 | .notPresented => 9

/-- The result part of a card (Table 1-9, bytes 40h to 7Fh). Each line gives its picked quantity, its result code and its
shortfall. -/
structure CardPart where
  result : CardResult
  port : Option Port
  adopted : Bool
  misrouted : Bool
  stuck : Bool
  lateArrival : Bool
  attempts : Nat
  exposure : Nat
  taken : Word
  called : Option Word
  arrived : Option Word
  presented : Option Word
  finished : Word
  lines : List (Nat × Nat × Nat)
deriving DecidableEq, Repr

def sumNat (l : List Nat) : Nat := l.foldr (· + ·) 0

/-- Exactly eight per-line bytes, 0 for the slots a card does not use (R20). -/
def perLine (values : List Nat) : List Byte :=
  (List.range 8).map (fun n => BitVec.ofNat 8 (values.getD n 0))

/-- A time field: FFFFFFFFh means the event did not happen (section 1.9). -/
def timeBytes (t : Option Word) : List Byte := natToBytes 4 (t.getD 0xFFFFFFFF).toNat

def bit (b : Bool) (n : Nat) : Nat := if b then 2 ^ n else 0

def CardPart.bytes (c : CardPart) : List Byte :=
  natToBytes 1 c.result.code
  ++ natToBytes 1 (match c.port with | some p => p.val | none => 0xFF)
  ++ natToBytes 1 (bit c.adopted 0 + bit c.misrouted 1 + bit c.stuck 2 + bit c.lateArrival 3)
  ++ natToBytes 1 0
  ++ natToBytes 2 c.attempts
  ++ natToBytes 2 (sumNat (c.lines.map (fun l => l.2.2)))
  ++ natToBytes 4 c.exposure
  ++ timeBytes (some c.taken) ++ timeBytes c.called ++ timeBytes c.arrived ++ timeBytes c.presented
  ++ timeBytes (some c.finished)
  ++ perLine (c.lines.map (fun l => l.1))
  ++ perLine (c.lines.map (fun l => l.2.1))
  ++ natToBytes 16 0

/-! ## Order records (Table 1-10) -/

/-- The host part of an order record as a binding's read returns it. -/
structure OrderBytes where
  state : Nat
  checkOk : Bool
  bench : Nat
  linesExpected : Nat
  tag : Word
  deadline : Word
deriving DecidableEq, Repr

def parseOrder (data : List Byte) : OrderBytes :=
  { state := field data 0x00 1
    checkOk := checkCorrect data
    bench := field data 0x04 1
    linesExpected := field data 0x06 2
    tag := BitVec.ofNat 32 (field data 0x08 4)
    deadline := BitVec.ofNat 32 (field data 0x0C 4) }

/-- Close reasons (Table 1-10). -/
inductive CloseReason where
  | none | complete | full | closeRequested | removedEarly | drained
deriving DecidableEq, Repr

def CloseReason.code : CloseReason → Nat
  | .none => 0 | .complete => 1 | .full => 2 | .closeRequested => 3 | .removedEarly => 4 | .drained => 5

/-- The result part of an order record (Table 1-10, bytes 20h to 3Fh). -/
structure OrderPart where
  reason : CloseReason
  pos : PutPos
  late : Bool
  linesCompleted : Nat
  unitsPut : Word
  timeBound : Word
  timeClosed : Option Word
deriving DecidableEq, Repr

def OrderPart.bytes (o : OrderPart) : List Byte :=
  natToBytes 1 o.reason.code ++ natToBytes 1 o.pos.val ++ natToBytes 1 (bit o.late 0) ++ natToBytes 1 0
  ++ natToBytes 2 o.linesCompleted ++ natToBytes 2 0 ++ natToBytes 4 o.unitsPut.toNat
  ++ timeBytes (some o.timeBound) ++ timeBytes o.timeClosed ++ natToBytes 12 0

/-! ## Tag table entries (Table 1-11) -/

/-- R27: the translation of an entry's 4 bytes. -/
def translationOf (st : Structural) (entry : Word) : Translation :=
  let index := entry.toNat % 65536
  match entry.toNat / 65536 % 256 with
  | 1 => if index < st.cardCount then .card index else .none
  | 2 => if index < st.orderCount then .order index else .none
  | 3 => .barred
  | _ => .none

/-- R21: the tag lies inside the window; the sum does not wrap at 2^32. -/
def Structural.inWindow (st : Structural) (tag : Word) : Bool :=
  decide (st.tagBase ≤ tag.toNat) && decide (tag.toNat < st.tagBase + 2 ^ st.tagExp)

/-! ## Frames sent (Tables 1-17, 10-1 and 11-2) -/

def GridMsg.frame : GridMsg → List Byte
  | .lineCheck => frameBytes 0x00 []
  | .call n p tag => frameBytes 0x01 (natToBytes 2 n ++ natToBytes 1 p.val ++ [0] ++ natToBytes 4 tag.toNat)
  | .callCancel n => frameBytes 0x02 (natToBytes 2 n)
  | .inquire n => frameBytes 0x03 (natToBytes 2 n)
  | .release p tag => frameBytes 0x04 (natToBytes 1 p.val ++ [0] ++ natToBytes 4 tag.toNat)
  | .recircGrant => frameBytes 0x05 []
  | .dispatchHold p q => frameBytes 0x06 (natToBytes 1 p.val ++ natToBytes 1 q)

def Reason.code : Reason → Nat
  | .accept => 0 | .busy => 1 | .occupied => 2 | .unknownTote => 3 | .alreadyBound => 4 | .wrongBench => 5
  | .cancelled => 6 | .notPresenting => 7 | .wrongPut => 8 | .over => 9 | .late => 10 | .notStaffed => 11
  | .outOfRange => 12 | .wrongState => 13 | .notEnabled => 14

/-- The type codes of Table 11-1. -/
def PanelType.code : PanelType → Byte
  | .signOn => 0x41 | .signOff => 0x42 | .breakOff => 0x43 | .back => 0x44 | .place => 0x45 | .remove => 0x46
  | .full => 0x47 | .pick => 0x48 | .short => 0x49 | .toteDone => 0x4A

/-- The staffing codes of Table 1-13 and of PANEL_RESET. -/
def Staffing.code : Staffing → Nat
  | .closed => 0 | .staffed => 1 | .onBreak => 2

def Cue.code : Cue → Nat
  | .exposure => 1 | .release => 2

def BenchMsg.frame : BenchMsg → List Byte
  | .lineCheck => frameBytes 0x00 []
  | .showLine port p qty => frameBytes 0x61 (natToBytes 1 port.val ++ natToBytes 1 p ++ natToBytes 1 qty)
  | .unshowLine port p => frameBytes 0x62 (natToBytes 1 port.val ++ natToBytes 1 p)
  | .closeCue p => frameBytes 0x63 (natToBytes 1 p)
  | .portCue port cue => frameBytes 0x64 (natToBytes 1 port.val ++ natToBytes 1 cue.code)
  | .answer ticket ty port p reason => frameBytes 0x65 ([ticket, ty.code, port, p] ++ natToBytes 1 reason.code)
  | .panelReset staffing picker => frameBytes 0x66 (natToBytes 1 staffing.code ++ [0] ++ natToBytes 2 picker.toNat)

end Sys2Proof.Machine
end

