-- ==== Sys2Proof/Machine/Flags.lean ====
section
/-! DEFINITION. The Notice Unit (chapter 12): the event bits, the vectors and notice writes, the fault capture and the
statistics counters. -/

namespace Sys2Proof.Machine

/-! ## Events and vectors -/

/-- The bit numbers of Table 12-1. -/
def Event.index : Event → Nat
  | .cardDone => 0 | .orderClosed => 1 | .sweepDone => 2 | .exception => 3 | .exposure => 4 | .settingsRefused => 5
  | .staffing => 6 | .lateOrder => 7 | .gridLink => 8 | .benchLink => 9 | .runState => 10

def Event.bits (e : Event) : BitVec 11 := (1 : BitVec 11) <<< e.index

/-- The categories of Table 12-1: COMPLETION, EXCEPTION, FLOOR, LINKS. -/
def categoryBits (c : Fin 4) : BitVec 11 :=
  match c with
  | 0 => 0x007
  | 1 => 0x038
  | 2 => 0x0C0
  | 3 => 0x700

/-- The event bits of a vector under a vector count (R182). Before live settings are taken the four categories stand for the
vectors; what is found then is never seen. DEDUCED, log entry 8. -/
def vectorBits (count : Nat) (v : Fin 4) : BitVec 11 :=
  if count = 1 then (if v = 0 then 0x7FF else 0)
  else if count = 2 then (if v = 0 then 0x7C7 else if v = 1 then 0x038 else 0)
  else categoryBits v

/-- The notice datum of a vector (R182). -/
def noticeDatum (l : Live) (v : Fin 4) : Nat :=
  if l.vectorCount = 4 then l.noticeData / 4 * 4 + v.val
  else if l.vectorCount = 2 then l.noticeData / 2 * 2 + v.val
  else l.noticeData

/-- The signal condition of a vector (R182). -/
def State.signalCondition (s : State) (v : Fin 4) : Bool :=
  s.pau.noticeEnable && (s.ntu.events &&& s.ntu.mask &&& vectorBits s.live.vectorCount v) != 0

/-- One vector's condition found afresh (R183): a condition that becomes true sends the vector's notice, unless `quiet` or
while no live settings have been taken (R184). -/
def findSignal (quiet : Bool) (s : State) (v : Fin 4) : State :=
  let found := s.signalCondition v
  let s' := { s with ntu := { s.ntu with signals := s.ntu.signals.set v found } }
  if found && !s.ntu.signals[v] && !quiet && s.pau.live.isSome then
    post s.live.noticeAddr (natToBytes 4 (noticeDatum s.live v)) s'
  else s'

/-- Every vector's condition found afresh. Where several send their notices at one event R183 allows any order; the model goes
up the vectors. DESIGN CHOICE, log entry 37. -/
def findSignals (quiet : Bool) (s : State) : State := ([0, 1, 2, 3] : List (Fin 4)).foldl (findSignal quiet) s

/-- An event is raised (R181). -/
def raise (e : Event) (s : State) : State :=
  findSignals false { s with ntu := { s.ntu with events := s.ntu.events ||| e.bits } }

/-! ## The fault capture (R185) -/

/-- What a block reports of an exception; a field not named is none. -/
structure Report where
  kind : ExcKind
  bench : Option Bench := none
  port : Option Byte := none
  card : Option Nat := none
  order : Option Nat := none
  tag : Option Word := none
deriving DecidableEq, Repr

/-- The capture is armed while the EXCEPTION bit of EVENTS is clear. -/
def State.armed (s : State) : Bool := !s.ntu.events.getLsbD Event.exception.index

def Report.capture (r : Report) (absent : Word) (time : Word) : Capture :=
  { kind := some r.kind, bench := r.bench, port := r.port.getD 0xFF, tagPresent := r.tag.isSome, card := r.card,
    order := r.order, tag := r.tag.getD absent, time := time, later := 0 }

/-- R185: an armed capture takes the record whole and is disarmed by EXCEPTION; otherwise the exception is counted, held at
FFFFFFFFh. The tag field of a report without a tag is a free value (log entry 6). -/
def report (r : Report) (s : State) : State :=
  if s.armed then
    raise .exception { s with
      ntu := { s.ntu with capture := r.capture (Config.absentTag s.freeCount) s.clock }
      freeCount := s.freeCount + 1 }
  else
    { s with ntu := { s.ntu with capture := { s.ntu.capture with
        later := if s.ntu.capture.later = 0xFFFFFFFF then 0xFFFFFFFF else s.ntu.capture.later + 1 } } }

/-- A port as a report carries it. -/
def portByte (p : Port) : Byte := BitVec.ofNat 8 p.val

/-! ## Statistics counters (R186, R187) -/

/-- The counters changed by one report; each wraps modulo 2^32. -/
def count (f : Counters → Counters) (s : State) : State := { s with ntu := { s.ntu with counters := f s.ntu.counters } }

/-- The counters of one bench changed by one report. -/
def countBench (b : Bench) (f : BenchCounters → BenchCounters) (s : State) : State :=
  count (fun c => { c with bench := c.bench.set b (f c.bench[b]) }) s

/-- One bench frame error (R171, R172). -/
def countBenchFrameError (b : Bench) (s : State) : State :=
  count (fun c => { c with benchFrameErrors := c.benchFrameErrors.set b (c.benchFrameErrors[b] + 1) }) s

/-- The dwell bucket of d seconds (R187). -/
def dwellBucket (d : Nat) : Fin 6 :=
  if d < 20 then 0 else if d < 40 then 1 else if d < 80 then 2 else if d < 160 then 3 else if d < 320 then 4 else 5

def countDwell (b : Bench) (d : Nat) (s : State) : State :=
  countBench b (fun c => { c with dwell := c.dwell.set (dwellBucket d) (c.dwell[dwellBucket d] + 1) }) s

def linesCut (b : Bench) (n : Nat) (s : State) : State :=
  countBench b (fun c => { c with linesCut := c.linesCut + BitVec.ofNat 32 n }) s

end Sys2Proof.Machine
end

