-- ==== Sys2Proof/Machine/Links.lean ====
section
/-! DEFINITION. Handing messages to the links and sending frames (R156, R157, R170 to R172), answers to panel messages (R174)
and PANEL_RESET (R178). -/

namespace Sys2Proof.Machine

/-! ## One link -/

/-- A frame begun, which restarts the idle timer (R157). -/
def Link.start {M : Type} (m : M) (l : Link M) : Link M := { l with sending := some m, idle := 0 }

/-- A message handed to a link that accepts it: it is begun at once when no frame is being sent, waits in the queue else. -/
def Link.enqueue {M : Type} (m : M) (l : Link M) : Link M :=
  match l.sending with
  | none => l.start m
  | some _ => { l with queue := l.queue ++ [m] }

/-- No room for a message: a frame is being sent and the queue holds `limit` messages. -/
def Link.isFull {M : Type} (limit : Nat) (l : Link M) : Bool := l.sending.isSome && decide (limit ≤ l.queue.length)

/-- The frame being sent ends; the oldest message begins, or a LINE_CHECK that waited for the end (R156, R157). -/
def Link.frameSent {M : Type} (check : M) (l : Link M) : Link M :=
  match l.queue with
  | m :: rest => { l with queue := rest, sending := some m, idle := 0, lineCheckDue := false }
  | [] =>
    if l.lineCheckDue then { l with sending := some check, idle := 0, lineCheckDue := false }
    else { l with sending := none }

/-- The idle timer reaches 5 ds (R157). -/
def Link.idleExpiry {M : Type} (check : M) (l : Link M) : Link M :=
  match l.sending with
  | none => l.start check
  | some _ => { l with lineCheckDue := true }

/-- Every waiting message removed; a frame already begun is sent to its end (R156, R172). -/
def Link.clearQueue {M : Type} (l : Link M) : Link M := { l with queue := [] }

/-- A good frame received, with a payload of this many bytes: the silence timer restarts, and the assembler hunts again from
the byte behind the frame's CRC, in what it still holds (R158, R159). -/
def Link.goodFrame {M : Type} (payload : Nat) (l : Link M) : Link M :=
  { l with silence := 0, held := hunt (l.held.drop (frameLength payload)) }

/-- A dropped frame: hunting resumes at the byte behind its sync byte, in the frame's bytes and those held behind it (R158). -/
def Link.droppedFrame {M : Type} (bytes : List Byte) (l : Link M) : Link M :=
  { l with held := hunt (bytes.tail ++ l.held.drop bytes.length) }

/-- The frame agrees with what the assembler holds: it lies within the bytes held, or begins with them (R158). -/
def Link.collects {M : Type} (bytes : List Byte) (l : Link M) : Bool := bytes.isPrefixOf l.held || l.held.isPrefixOf bytes

/-- The bytes are all that the assembler holds and has been sent: 1 ds without a further byte ends their frame (R158). -/
def Link.stalls {M : Type} (bytes : List Byte) (l : Link M) : Bool := l.held.isPrefixOf bytes

/-! ## The Grid Link -/

def setGridLink (l : Link GridMsg) (s : State) : State := { s with glc := { s.glc with link := l } }

/-- A DISPATCH_HOLD for the port. -/
def GridMsg.holdsPort (p : Port) : GridMsg → Bool
  | .dispatchHold q _ => q == p
  | _ => false

/-- R156: a DISPATCH_HOLD replaces the one that waits for the same port, in its place. -/
def replaceHold (p : Port) (m : GridMsg) (queue : List GridMsg) : List GridMsg :=
  queue.map (fun n => if n.holdsPort p then m else n)

/-- The port of a DISPATCH_HOLD that has an earlier one waiting in the queue. -/
def replaces (m : GridMsg) (queue : List GridMsg) : Option Port :=
  match m with
  | .dispatchHold p _ => if queue.any (fun n => n.holdsPort p) then some p else none
  | _ => none

def countGridFrameError (s : State) : State := count (fun c => { c with gridFrameErrors := c.gridFrameErrors + 1 }) s

/-- R156: a message handed to the GLC. It is dropped without count while the link is DOWN or the run state is neither
RUNNING nor DRAINING; one that finds 128 waiting is counted as a grid frame error and not queued. -/
def gridHand (m : GridMsg) (s : State) : State :=
  let l := s.glc.link
  if l.up && s.active then
    match replaces m l.queue with
    | some p => setGridLink { l with queue := replaceHold p m l.queue } s
    | none => if l.isFull Config.gridQueue then countGridFrameError s else setGridLink (l.enqueue m) s
  else s

/-! ## The Bench Links -/

def setBenchLink (b : Bench) (l : Link BenchMsg) (s : State) : State := setBench b { s.bench b with link := l } s

/-- R172: a message handed to a BLC. It is dropped without count while the link is DOWN; one that finds 64 waiting is counted
as a frame error of the bench and not queued. -/
def benchHand (b : Bench) (m : BenchMsg) (s : State) : State :=
  let l := (s.bench b).link
  if l.up then
    if l.isFull Config.benchQueue then countBenchFrameError b s else setBenchLink b (l.enqueue m) s
  else s

def setAwaited (b : Bench) (a : Option Awaited) (s : State) : State := setBench b { s.bench b with awaited := a } s

/-- R174: the answer to the awaited message, which is cleared at the hand-over. Nothing is handed when none is awaited. -/
def answer (b : Bench) (r : Reason) (s : State) : State :=
  match (s.bench b).awaited with
  | none => s
  | some a => setAwaited b none (benchHand b (.answer a.ticket a.ty a.port a.p r) s)

/-- R174: the answer to the PLACE that a position's binding waits to answer; nothing when its bench no longer awaits it. -/
def answerPlace (q : PutPos) (r : Reason) (s : State) : State :=
  match (s.bench (posBench q)).awaited with
  | none => s
  | some a => if a.ty = .place ∧ a.p.toNat = posIndex q then answer (posBench q) r s else s

/-- R178: PANEL_RESET on a link that is UP, with the staffing and picker as they stand; the awaited message is cleared. -/
def panelReset (b : Bench) (s : State) : State :=
  let c := s.bench b
  if c.link.up then setAwaited b none (benchHand b (.panelReset c.staffing c.picker) s) else s

/-- PANEL_RESET on every Bench Link that is UP. -/
def panelResets (s : State) : State := allBenches.foldl (fun t b => panelReset b t) s

/-- A cue to the panels of the benches at a port (R109, R131). -/
def portCue (p : Port) (cue : Cue) (s : State) : State :=
  (portBenches p).foldl (fun t b => benchHand b (.portCue p cue) t) s

end Sys2Proof.Machine
end

