-- ==== Sys2Proof/Machine/Status.lean ====
section
/-! DEFINITION. What the host sees: the register window (R1, R2) and the Status Block (R17, R19, Tables 1-12 to 1-16); the
change of run state (R188). -/

namespace Sys2Proof.Machine

/-! ## Codes -/

def RunState.code : RunState → Nat
  | .stopped => 0 | .starting => 1 | .running => 2 | .draining => 3 | .faulted => 4

def ResetCause.code : ResetCause → Nat
  | .powerOn => 0 | .busReset => 1 | .clear => 2

def ChainState.code : ChainState → Nat
  | .atAnchor => 0 | .following => 1 | .starvedAtAnchor => 2 | .starvedAtLink => 3

/-- Table 1-15. -/
def ExcKind.code : ExcKind → Nat
  | .checkFail => 1 | .badCard => 2 | .misroute => 3 | .unmatchedArrival => 4 | .laneOverrun => 5
  | .callRetryExhausted => 6 | .lostInTransit => 7 | .gridProtocol => 8 | .tenureTimeout => 9 | .exposureOverdue => 10
  | .removedEarly => 11 | .shortReported => 12 | .settingsRefused => 13 | .busError => 14

/-- A port 0 to 9, 0Ah for recirculation, FFh for none (Table 1-12). -/
def requesterCode : Option Requester → Nat
  | none => 0xFF
  | some .recirc => 0x0A
  | some (.port p) => p.val

/-- The tenure holder, the swing target left out (R142). -/
def Merge.holder : Merge → Option Requester
  | .tenure r _ => some r
  | _ => none

/-- SWINGING or SWUNG (Table 9-1). -/
def Merge.inSwing : Merge → Bool
  | .swinging _ _ _ => true
  | .swung _ => true
  | _ => false

/-! ## The register window -/

def identValue : Nat := 0x4D420001

def controlValue (s : State) : Nat := bit s.pau.run 0 + bit s.pau.noticeEnable 2

/-- One bit per bench, set while its link is UP. -/
def benchLinkBits (s : State) : Nat := sumNat (allBenches.map (fun b => bit (s.bench b).link.up b.val))

/-- R2, Table 1-6. -/
def statusValue (s : State) : Nat :=
  s.pau.runState.code + s.pau.resetCause.code * 2 ^ 4 + s.pau.errorCode * 2 ^ 8 + bit s.glc.link.up 16
  + benchLinkBits s * 2 ^ 17

/-- The eight registers by number, offset divided by 4; 0 at the unassigned offsets. -/
def registerValue (s : State) (n : Nat) : Nat :=
  match n with
  | 0 => identValue
  | 1 => controlValue s
  | 2 => statusValue s
  | 3 => s.pau.areaLo.toNat
  | 4 => s.pau.areaHi.toNat
  | 5 => s.pau.completedEdition.toNat
  | 6 => s.ntu.events.toNat
  | 7 => s.ntu.mask.toNat
  | _ => 0

/-- One byte of the window. -/
def windowByte (s : State) (offset : Nat) : Byte := BitVec.ofNat 8 (registerValue s (offset / 4) / 256 ^ (offset % 4))

/-- A register read of `width` bytes at `offset` (R1). A read changes nothing, so it is no command. -/
def windowRead (s : State) (offset width : Nat) : List Byte := (List.range width).map (fun k => windowByte s (offset + k))

/-! ## The Status Block -/

/-- Table 1-13; R20 for a bench not enabled. -/
def benchRecordBytes (s : State) (b : Bench) : List Byte :=
  if s.st.benchEnabled b then
    natToBytes 1 (s.bench b).staffing.code ++ natToBytes 1 (s.chain b).state.code
    ++ natToBytes 1 (s.staged b).length ++ natToBytes 1 0 ++ natToBytes 2 ((s.chain b).cursor.getD 0xFFFF)
    ++ natToBytes 2 0
  else natToBytes 4 0 ++ natToBytes 2 0xFFFF ++ natToBytes 2 0

/-- A card with an overdue record stands in the port's call table or lane (R134). -/
def State.overdueAt (s : State) (p : Port) : Bool := s.exposures.any (fun r => r.port == p && r.overdue)

/-- Table 1-14; R20 for an absent port. -/
def portRecordBytes (s : State) (p : Port) : List Byte :=
  if s.st.portPresent p then
    natToBytes 1 (s.lane p).length ++ natToBytes 1 (s.portCalls p).length ++ natToBytes 1 (bit (s.hold p).holding 0)
    ++ natToBytes 1 (bit true 0 + bit (s.headStuck p) 1 + bit (s.overdueAt p) 2)
  else natToBytes 4 0

/-- What remains of a return hold, in ds (R142, R150). -/
def returnHoldDs (s : State) : Nat := (s.mga.holdTimer + (Config.ticksPerDs - 1)) / Config.ticksPerDs

/-- Table 1-15. -/
def Capture.bytes (c : Capture) : List Byte :=
  natToBytes 1 (match c.kind with | some k => k.code | none => 0)
  ++ natToBytes 1 (match c.bench with | some b => b.val | none => 0xFF)
  ++ [c.port] ++ natToBytes 1 (bit c.tagPresent 0) ++ natToBytes 2 (c.card.getD 0xFFFF)
  ++ natToBytes 2 (c.order.getD 0xFFFF) ++ natToBytes 4 c.tag.toNat ++ natToBytes 4 c.time.toNat
  ++ natToBytes 4 c.later.toNat ++ natToBytes 12 0

def wordsBytes (ws : List Word) : List Byte := ws.flatMap (fun w => natToBytes 4 w.toNat)

/-- Table 1-16. -/
def BenchCounters.bytes (c : BenchCounters) : List Byte :=
  wordsBytes [c.presentations, c.unitsPut, c.linesComplete, c.linesShort, c.linesCut, c.exposureWarns, c.recalls,
    c.misroutes]
  ++ wordsBytes c.dwell.toList

/-- Offsets 000h to 00Bh of Table 1-12. -/
def statusHead (s : State) : List Byte :=
  natToBytes 4 s.pau.completedEdition.toNat ++ natToBytes 1 s.pau.runState.code ++ natToBytes 1 s.pau.errorCode
  ++ natToBytes 1 s.pau.resetCause.code ++ natToBytes 1 (bit s.glc.link.up 0 + 2 * benchLinkBits s)
  ++ natToBytes 4 s.pau.floorClock.toNat

/-- Offsets 010h to 1FBh of Table 1-12. -/
def statusBody (s : State) : List Byte :=
  let c := s.ntu.counters
  allBenches.flatMap (benchRecordBytes s)
  ++ allPorts.flatMap (portRecordBytes s)
  ++ natToBytes 1 (requesterCode s.mga.merge.holder) ++ natToBytes 1 (requesterCode s.mga.parked)
  ++ natToBytes 1 (bit s.mga.merge.inSwing 0 + bit (s.mga.holdTimer != 0) 1) ++ natToBytes 1 0
  ++ natToBytes 2 (returnHoldDs s) ++ natToBytes 2 0
  ++ s.ntu.capture.bytes
  ++ wordsBytes [c.calls, c.refusals, c.retries, c.callFailures, c.transitLosses, c.mergeGrants, c.recircGrants,
    c.tenureTimeouts, c.returnHolds, c.dispatchHolds, c.gridFrameErrors]
  ++ wordsBytes c.benchFrameErrors.toList ++ natToBytes 4 0
  ++ c.bench.toList.flatMap BenchCounters.bytes
  ++ natToBytes 92 0

/-- R19: one Status Block write, a snapshot of this moment. The counter counts first; it goes out first at 00Ch, then the
other bytes in ascending order, its copy at 1FCh last. None is made while no structural settings have been taken. -/
def writeStatus (s : State) : State :=
  match s.pau.structural with
  | none => s
  | some st =>
    let t : State := { s with pau := { s.pau with writeSeq := s.pau.writeSeq + 1 } }
    let seq := natToBytes 4 t.pau.writeSeq.toNat
    post (st.statusBlock + 0x1FC) seq (post (st.statusBlock + 0x010) (statusBody t)
      (post st.statusBlock (statusHead t) (post (st.statusBlock + 0x00C) seq t)))

/-- R188: a change of run state, once the blocks have done their work: the Status Block write, then RUN_STATE. -/
def setRunState (r : RunState) (s : State) : State :=
  raise .runState (writeStatus { s with pau := { s.pau with runState := r } })

end Sys2Proof.Machine
end

