-- ==== Sys2Proof/Machine/Cards.lean ====
section
/-! DEFINITION. Cards (chapter 3): the results of their lines (R50 to R52), the end of an exposure record (R136) and the DONE
write (R53). -/

namespace Sys2Proof.Machine

/-! ## Lines -/

/-- The line has no result yet. -/
def Line.unresolved (l : Line) : Bool := l.result.isNone

/-- R52: a line resolved with a result other than COMPLETE moves its remaining units to shortfall; its light goes out. -/
def Line.resolve (r : LineResult) (l : Line) : Line :=
  { l with result := some r, shortfall := l.shortfall + l.remaining, remaining := 0, lit := false }

/-- R43: a used line of a card just accepted. -/
def Line.fresh (slot : Nat × Nat) : Line :=
  { order := slot.1, qty := slot.2, picked := 0, remaining := slot.2, shortfall := 0, result := none, pos := none,
    lit := false }

/-- The bench a line belongs to, once assigned. -/
def Line.bench (l : Line) : Option Bench := l.pos.map posBench

/-- The unresolved lines that `sel` picks resolved with one result. -/
def CardCtx.resolveLines (sel : Line → Bool) (r : LineResult) (c : CardCtx) : CardCtx :=
  { c with lines := c.lines.map (fun l => if l.unresolved && sel l then l.resolve r else l) }

def CardCtx.openLines (c : CardCtx) : List Line := c.lines.filter Line.unresolved

/-- The card has entered PRESENTING (R51). -/
def CardCtx.presented (c : CardCtx) : Bool := c.timePresented.isSome

/-- R51: the result of a presented card. -/
def CardCtx.presentedResult (byRecall : Bool) (c : CardCtx) : CardResult :=
  if byRecall then .exposureRecall
  else if c.lines.all (fun l => l.result == some .complete) then .pickedFull
  else if c.lines.any (fun l => l.result == some .short) then .pickedShort
  else .cut

/-- R50: a card finished before presentation: every used line takes the line result, its quantity as shortfall. -/
def CardCtx.unpresented (r : CardResult) (lr : LineResult) (c : CardCtx) : CardCtx :=
  { c with
    result := some r
    lines := c.lines.map (fun l => { l with picked := 0, remaining := 0, shortfall := l.qty, result := some lr }) }

/-! ## Exposure records and their end -/

def Exposure.names (r : Exposure) (c : CardCtx) : Bool := r.card == c.card && r.seq == c.seq

/-- R128: base plus elapsed, held at FFFFFFFFh. -/
def Exposure.total (r : Exposure) : Nat := min (r.base + r.elapsed) 0xFFFFFFFF

def State.exposureOf (s : State) (c : CardCtx) : Option Exposure := s.exposures.find? (fun r => r.names c)

/-- R53: the total the ETU reported, else the exposure used of a cold card, else 0. -/
def State.exposureTotal (s : State) (c : CardCtx) : Nat :=
  match s.exposureOf c with
  | some r => r.total
  | none => if c.cls.cold then c.exposureUsed else 0

/-- R136: the record of a taking is removed. -/
def endExposure (c : CardCtx) (s : State) : State := { s with exposures := s.exposures.filter (fun r => !r.names c) }

/-! ## The DONE write -/

/-- State TAKEN and DONE of a card (Table 1-9). -/
def stateTaken : Nat := 2
def stateDone : Nat := 3

/-- R33, R53: the result part, then DONE; CARD_DONE is raised. -/
def writeDone (card : Nat) (part : CardPart) (s : State) : State :=
  raise .cardDone (post (s.cardAddr card) (natToBytes 1 stateDone) (post (s.cardAddr card + 0x40) part.bytes s))

/-- The result part of a card context whose exposure total has been handed over. -/
def CardCtx.part (c : CardCtx) (r : CardResult) (finished : Word) : CardPart :=
  { result := r, port := c.portPresented, adopted := c.adopted, misrouted := c.misrouted, stuck := c.stuck,
    lateArrival := c.lateArrival, attempts := c.callAttempts, exposure := c.exposureTotal.getD 0, taken := c.timeTaken,
    called := c.timeCalled, arrived := c.timeArrived, presented := c.timePresented, finished := finished,
    lines := c.lines.map (fun l => (l.picked, match l.result with | some lr => lr.code | none => 0, l.shortfall)) }

/-- R53: a held card whose result is settled goes back to the host: its exposure record ends and its total is taken, then the
result part and DONE are written. -/
def returnCard (c : CardCtx) (s : State) : State :=
  match c.result with
  | none => endExposure c s
  | some r =>
    let c' : CardCtx := { c with exposureTotal := some (s.exposureTotal c) }
    writeDone c.card (c'.part r s.clock) (endExposure c s)

/-- R46, R47: a staged card leaves its list. -/
def unstage (c : CardCtx) (s : State) : State :=
  setStaged c.bench ((s.staged c.bench).filter (fun d => !d.named c.card c.seq)) s

/-- A staged card is finished (Table 3-4). -/
def finishStaged (r : CardResult) (lr : LineResult) (c : CardCtx) (s : State) : State :=
  returnCard (c.unpresented r lr) (unstage c s)

end Sys2Proof.Machine
end

