-- ==== Sys2Proof/Machine/Lanes.lean ====
section
/-! DEFINITION. Lanes (chapters 6 and 7): the questions to the put wall, lights, presentation, settling, ending, staffing
changes, recalls and withdrawals at a lane head, and withdrawal of acceptance. An own port and a shared port go by the same
operations: the owning benches of a card are its bench, or both benches of the pair for a TWIN card. -/

namespace Sys2Proof.Machine

/-! ## Questions to the put wall (R56) -/

inductive Query where
  | accepting (pos : PutPos) (deadline : Word)
  | notAccepting
  | absent
deriving DecidableEq, Repr

/-- BOUND, COMPLETE, FULL or CLOSING: the position holds its order. -/
def PosState.holds : PosState → Bool
  | .empty => false
  | .binding => false
  | _ => true

/-- The position that holds order j (R55: at most one). -/
def State.holder (s : State) (j : Nat) : Option PutPos :=
  allPositions.find? (fun q => (s.position q).order == some j && (s.position q).state.holds)

/-- R56. -/
def State.ask (s : State) (j : Nat) (benches : List Bench) : Query :=
  match s.holder j with
  | none => .absent
  | some q =>
    if benches.contains (posBench q) then
      (if (s.position q).state = .bound then .accepting q (s.position q).deadline else .notAccepting)
    else .absent

/-! ## Lights (R100) -/

def showLine (p : Port) (l : Line) (s : State) : State :=
  match l.pos with
  | some q => if l.lit then benchHand (posBench q) (.showLine p (posIndex q) l.remaining) s else s
  | none => s

def unshowLine (p : Port) (l : Line) (s : State) : State :=
  match l.pos with
  | some q => if l.lit then benchHand (posBench q) (.unshowLine p (posIndex q)) s else s
  | none => s

/-! ## The head entry -/

/-- The card of the head entry replaced, with the entry's state. -/
def setHeadCard (p : Port) (e : Entry) (c : CardCtx) (st : EntryState) (s : State) : State :=
  setHead p { e with card := some c, state := st } s

/-- The head entry with its card. -/
def State.headCard (s : State) (p : Port) : Option (Entry × CardCtx) :=
  match s.head p with
  | some e => e.card.map (fun c => (e, c))
  | none => none

/-- Unresolved lines of the head's card resolved with one result, their lights put out (R49, R52, R103 to R108, R125), in slot
order: no rule orders them. DESIGN CHOICE, log entry 35. -/
def resolveHead (p : Port) (sel : Line → Bool) (r : LineResult) (s : State) : State :=
  match s.headCard p with
  | none => s
  | some (e, c) =>
    (c.openLines.filter sel).foldl (fun t l => unshowLine p l t) (setHeadCard p e (c.resolveLines sel r) e.state s)

/-- The lines resolved reported as lines cut, each for the bench of its position. -/
def countLinesCut (ls : List Line) (s : State) : State :=
  ls.foldl (fun t l => match l.bench with | some b => linesCut b 1 t | none => t) s

/-- R106: the release request handed to the Merge Arbiter (R140). -/
def requestRelease (p : Port) (e : Entry) (s : State) : State :=
  let recalled := match e.card with | some c => c.recalled | none => false
  let frozen := match e.card with | some c => c.cls == .frozen | none => false
  { s with mga := { s.mga with
      requests := s.mga.requests ++ [{ port := p, tag := e.tag, recalled := recalled, frozen := frozen }] } }

/-- R106: the head's lines being resolved, its entry becomes ENDED. A presented card takes its result by R51 and its dwell is
reported; another takes `un` (Table 3-4); a STRANGER has none. -/
def endHead (p : Port) (un : CardResult) (byRecall : Bool) (s : State) : State :=
  match s.head p with
  | none => s
  | some e => match e.card with
    | none => requestRelease p e (setHead p { e with state := .ended } s)
    | some c => match c.timePresented with
      | none =>
        let e' : Entry := { e with card := some { c with result := some un }, state := .ended }
        requestRelease p e' (setHead p e' s)
      | some t =>
        let e' : Entry := { e with card := some { c with result := some (c.presentedResult byRecall) }, state := .ended }
        countDwell c.bench (s.clock - t).toNat (requestRelease p e' (setHead p e' s))

/-- Every unresolved line resolved with one result, and the entry ended. -/
def endWith (p : Port) (un : CardResult) (lr : LineResult) (byRecall : Bool) (s : State) : State :=
  endHead p un byRecall (resolveHead p (fun _ => true) lr s)

def State.staffed (s : State) (b : Bench) : Bool := (s.bench b).staffing == .staffed
def State.closed (s : State) (b : Bench) : Bool := (s.bench b).staffing == .closed
/-- Every owning bench of the card is CLOSED (R98, R119, R120). -/
def State.allClosed (s : State) (c : CardCtx) : Bool := c.benches.all s.closed

/-- R121: a presented entry settles. With no unresolved line it ends; with none of a STAFFED bench it is WAITING_BENCH; else
PRESENTING. -/
def settleEntry (p : Port) (s : State) : State :=
  match s.headCard p with
  | none => s
  | some (e, c) =>
    if c.openLines.isEmpty then endHead p .cut false s
    else if c.openLines.any (fun l => match l.bench with | some b => s.staffed b | none => false) then
      setHead p { e with state := .presenting } s
    else setHead p { e with state := .waitingBench } s

/-! ## Presentation (R99, R121) -/

/-- The question for one unresolved line and what its answer makes of the line. The bench set is the bench recorded for the
line, the card's at its first presentation. -/
def State.questionLine (s : State) (benches : List Bench) (l : Line) : Line :=
  match s.ask l.order (match l.bench with | some b => [b] | none => benches) with
  | .notAccepting => l.resolve .orderFull
  | .absent => l.resolve .orderAbsent
  | .accepting q _ =>
    match (s.bench (posBench q)).staffing with
    | .staffed => { l with pos := some q, lit := true }
    | .onBreak => { l with pos := some q, lit := false }
    | .closed => ({ l with pos := some q } : Line).resolve .benchClosed

/-- What the answer sends: SHOW for a line lit, one line cut for a line of a CLOSED bench. -/
def questionEffect (p : Port) (l : Line) (s : State) : State :=
  if l.result = some .benchClosed then countLinesCut [l] s else showLine p l s

/-- The questions asked for the unresolved lines of the head's card that `sel` picks, in slot order; the entry is
PRESENTING. -/
def questionHead (p : Port) (sel : Line → Bool) (s : State) : State :=
  match s.headCard p with
  | none => s
  | some (e, c) =>
    let ask (l : Line) : Line := if l.unresolved && sel l then s.questionLine c.benches l else l
    let asked := (c.openLines.filter sel).map (s.questionLine c.benches)
    asked.foldl (fun t l => questionEffect p l t) (setHeadCard p e { c with lines := c.lines.map ask } .presenting s)

/-- R99, R121: the first entry to PRESENTING. -/
def presentFirst (p : Port) (s : State) : State :=
  match s.headCard p with
  | none => s
  | some (e, c) =>
    settleEntry p (questionHead p (fun _ => true)
      (countBench c.bench (fun k => { k with presentations := k.presentations + 1 })
        (setHeadCard p e { c with portPresented := some p, timePresented := some s.clock } .presenting s)))

/-- A line assigned to bench b. -/
def Line.ofBench (b : Bench) (l : Line) : Bool := l.bench == some b

/-- R98, R120: the DOCKED head, QUEUED, is ended unpresented, presented, or made to wait. -/
def dockHead (p : Port) (s : State) : State :=
  match s.headCard p with
  | none => endHead p .cut false s
  | some (e, c) =>
    if c.recalled then endWith p .exposureRecall .recalled true s
    else if c.withdrawn then endWith p .withdrawn .withdrawn false s
    else if s.allClosed c then endWith p .benchClosed .benchClosed false s
    else if c.benches.any s.staffed then presentFirst p s
    else setHead p { e with state := .waitingBench } s

/-! ## Staffing changes at one port (R108, R123 to R125) -/

/-- STAFFED to BREAK: the bench's lit lines go dark and keep their positions; the entry settles. -/
def darkenHead (b : Bench) (p : Port) (s : State) : State :=
  match s.headCard p with
  | none => s
  | some (e, c) =>
    if e.state = .presenting then
      let dark (l : Line) : Line := if l.lit && l.ofBench b then { l with lit := false } else l
      settleEntry p ((c.lines.filter (fun l => l.lit && l.ofBench b)).foldl (fun t l => unshowLine p l t)
        (setHeadCard p e { c with lines := c.lines.map dark } e.state s))
    else s

/-- To STAFFED: the questions for the bench's unresolved lines, or the first presentation of an entry that waits. -/
def relightHead (b : Bench) (p : Port) (s : State) : State :=
  match s.headCard p with
  | none => s
  | some (e, c) =>
    if (e.state = .presenting ∨ e.state = .waitingBench) ∧ c.presented then
      (if c.openLines.any (Line.ofBench b) then settleEntry p (questionHead p (Line.ofBench b) s) else s)
    else if e.state = .waitingBench ∧ c.benches.contains b then presentFirst p s
    else s

/-- To CLOSED: the bench's unresolved lines are cut BENCH_CLOSED and the entry settles; an entry never presented ends when no
owning bench is left. -/
def closeHead (b : Bench) (p : Port) (s : State) : State :=
  match s.headCard p with
  | none => s
  | some (e, c) =>
    if (e.state = .presenting ∨ e.state = .waitingBench) ∧ c.presented then
      let cut := c.openLines.filter (Line.ofBench b)
      settleEntry p (countLinesCut cut (resolveHead p (Line.ofBench b) .benchClosed s))
    else if e.state = .waitingBench ∧ c.benches.contains b ∧ s.allClosed c then
      endWith p .benchClosed .benchClosed false s
    else s

/-! ## Recalls and withdrawals in a lane (R49, R107, R126) -/

/-- A pending release request of the port takes the RECALLED mark (R107, R140). -/
def markRequest (p : Port) (s : State) : State :=
  { s with mga := { s.mga with
      requests := s.mga.requests.map (fun r => if r.port = p then { r with recalled := true } else r) } }

/-- R107: the RECALLED flag being set in the card context, the head acts when it holds the card of this taking. -/
def recallHead (card : Nat) (seq : Word) (p : Port) (s : State) : State :=
  match s.headCard p with
  | none => s
  | some (e, c) =>
    if c.named card seq then
      match e.state with
      | .presenting => endWith p .exposureRecall .recalled true s
      | .waitingBench => endWith p .exposureRecall .recalled true s
      | .ended => markRequest p s
      | _ => s
    else s

/-- R49: the withdrawn flag being set in the card context, the head acts when it holds the card of this taking. -/
def withdrawHead (card : Nat) (seq : Word) (p : Port) (s : State) : State :=
  match s.headCard p with
  | none => s
  | some (e, c) =>
    if c.named card seq ∧ (e.state = .presenting ∨ e.state = .waitingBench) then
      endWith p .withdrawn .withdrawn false s
    else s

/-- R107: a recall handed over for a taking: the flag goes into its context wherever it stands, then the heads act. -/
def recallTaking (card : Nat) (seq : Word) (s : State) : State :=
  allPorts.foldl (fun t p => recallHead card seq p t) (updateTaking card seq (fun c => { c with recalled := true }) s)

/-! ## Withdrawal of acceptance (R64, R105) -/

/-- R105: at one port, every lit line of order j is resolved with the reason and counted as cut; the entry settles. -/
def withdrawAcceptanceAt (j : Nat) (lr : LineResult) (p : Port) (s : State) : State :=
  match s.headCard p with
  | none => s
  | some (_, c) =>
    let lit (l : Line) : Bool := l.lit && l.order == j
    let cut := c.openLines.filter lit
    if cut.isEmpty then s else settleEntry p (countLinesCut cut (resolveHead p lit lr s))

/-- R64, R105. No rule orders the ports; the model goes up the port numbers. DESIGN CHOICE, log entry 35. -/
def withdrawAcceptance (j : Nat) (lr : LineResult) (s : State) : State :=
  allPorts.foldl (fun t p => withdrawAcceptanceAt j lr p t) s

/-! ## Ports a card may use (R95) -/

def State.mayUse (s : State) (c : CardCtx) (p : Port) : Bool :=
  s.st.portPresent p
  && (if c.twin then p == sharedPort (pairOf c.bench)
      else portBench p == some c.bench
        || (p == sharedPort (pairOf c.bench) && (s.st.lendBenches (pairOf c.bench)).contains c.bench))

/-- The bench a report of a port names: the port's bench, none for a shared port. -/
def reportBench (p : Port) : Option Bench := portBench p

end Sys2Proof.Machine
end

