-- ==== Sys2Proof/Machine/Holds.lean ====
section
/-! DEFINITION. Dispatch holds (section 10.5): the wanting of a hold found afresh, DISPATCH_HOLD, resumption. -/

namespace Sys2Proof.Machine

/-- A call in ACCEPTED or DISPATCHED none of whose card's owning benches is STAFFED, one at least being in BREAK (R164). -/
def State.breakCall (s : State) (c : Call) : Bool :=
  (c.state == .accepted || c.state == .dispatched)
  && !c.card.benches.any s.staffed && c.card.benches.any (fun b => (s.bench b).staffing == .onBreak)

/-- R164: a present port wants a hold. -/
def State.wantsHold (s : State) (p : Port) : Bool :=
  s.st.portPresent p && (s.headStuck p || (s.live.holdOnBreak && (s.portCalls p).any s.breakCall))

/-- R165: DISPATCH_HOLD with the live quantum is handed, the port is HOLDING, both timers start, the send is counted. -/
def sendHold (p : Port) (s : State) : State :=
  let h : PortHold :=
    { s.hold p with
      holding := true
      refresh := some (s.live.holdRefresh * Config.ticksPerDs)
      expiry := some (s.live.holdQuantum * Config.ticksPerDs) }
  count (fun c => { c with dispatchHolds := c.dispatchHolds + 1 })
    (setHold p h (gridHand (.dispatchHold p s.live.holdQuantum) s))

/-- R166: a HOLDING port stops wanting a hold. Resume mode EXPLICIT sends a quantum of 0; LAPSE waits for the expiry. -/
def resumeDispatch (p : Port) (s : State) : State :=
  if s.live.resumeLapse then setHold p { s.hold p with refresh := none } s
  else setHold p { s.hold p with holding := false, refresh := none, expiry := none } (gridHand (.dispatchHold p 0) s)

/-- What the hold state of a port does as its wanting is found (R165, R166); nothing while the link is DOWN (R167). -/
def actOnWant (p : Port) (old new : Bool) (s : State) : State :=
  if !s.glc.link.up then s
  else if new && !old then sendHold p s
  else if !new && old && (s.hold p).holding then resumeDispatch p s
  else s

def setWants (p : Port) (w : Bool) (s : State) : State := setHold p { s.hold p with wants := w } s

/-- R164: the wanting of one port found afresh, the hold state acting on a change. -/
def refreshHold (p : Port) (s : State) : State := setWants p (s.wantsHold p) (actOnWant p (s.hold p).wants (s.wantsHold p) s)

/-- R164: every port's wanting found afresh, in ascending port number. -/
def refreshHolds (s : State) : State := allPorts.foldl (fun t p => refreshHold p t) s

/-- R167: at link UP a hold goes out for every port that wants one, in ascending port number. -/
def resumeHolds (s : State) : State :=
  allPorts.foldl (fun t p => setWants p (t.wantsHold p) (if t.wantsHold p then sendHold p t else t)) s

/-- R167, R169: every hold lapsed: FLOWING, both timers stopped. -/
def lapseHolds (s : State) : State :=
  { s with glc := { s.glc with holds := s.glc.holds.map (fun h =>
      { h with holding := false, refresh := none, expiry := none }) } }

end Sys2Proof.Machine
end

