-- ==== Sys2Proof/Machine/Merges.lean ====
section
/-! DEFINITION. The Merge Arbiter (chapter 9): choice, swings, grants, the end of a tenure or swing. -/

namespace Sys2Proof.Machine

def setMga (m : Mga) (s : State) : State := { s with mga := m }

/-- No return hold is in force, the Grid Link is UP and the part is RUNNING or DRAINING: a grant may be given (R142, R151). -/
def State.grantsFlow (s : State) : Bool := s.mga.holdTimer == 0 && s.glc.link.up && s.active

/-! ## The choice (R143) -/

/-- The ports in rotation order: from the one above the last port granted, wrapping from 9 to 0. -/
def rotation (last : Port) : List Port := (List.range 10).map (fun k => ⟨(last.val + 1 + k) % 10, Nat.mod_lt _ (by decide)⟩)

/-- The pending request of a port. -/
def Mga.request (m : Mga) (p : Port) : Option Request := m.requests.find? (fun r => r.port == p)

/-- The port has a pending request that carries the RECALLED or the FROZEN mark. -/
def Mga.marked (m : Mga) (p : Port) : Bool := m.requests.any (fun r => r.port == p && (r.recalled || r.frozen))

/-- R143: the requester chosen of those that wait. -/
def Mga.choose (m : Mga) (frozenPriority : Bool) (k : Nat) : Option Requester :=
  let priority := if frozenPriority then (rotation m.lastPort).find? m.marked else none
  match priority with
  | some p => some (.port p)
  | none =>
    if m.recircFlag && k != 0 && decide (k ≤ m.portCount) then some .recirc
    else match (rotation m.lastPort).find? (fun p => (m.request p).isSome) with
      | some p => some (.port p)
      | none => if m.recircFlag then some .recirc else none

/-! ## Grants (R147) -/

/-- The tenure timer of a grant: 2c floor seconds for a code c of 1 to 15, none for code 0. -/
def Live.tenure (l : Live) : Option Nat := if l.tenureCode = 0 then none else some (2 * l.tenureCode)

/-- R109: the granted port's ENDED head becomes RELEASING. -/
def releaseHead (p : Port) (s : State) : State :=
  match s.head p with
  | some e => setHead p { e with state := .releasing } s
  | none => s

def grantPort (p : Port) (s : State) : State :=
  match s.mga.request p with
  | none => s
  | some r =>
    let t := setMga
      { s.mga with
        requests := s.mga.requests.filter (fun x => x.port != p)
        merge := .tenure (.port p) s.live.tenure
        lastPort := p
        portCount := min (s.mga.portCount + 1) 255 } s
    let u := count (fun c => { c with mergeGrants := c.mergeGrants + 1 }) t
    portCue p .release (gridHand (.release p r.tag) (releaseHead p u))

def grantRecirc (s : State) : State :=
  let t := setMga
    { s.mga with recircFlag := false, recircTimedOut := false, merge := .tenure .recirc s.live.tenure, portCount := 0 } s
  gridHand .recircGrant (count (fun c => { c with recircGrants := c.recircGrants + 1 }) t)

def grant (r : Requester) (s : State) : State :=
  match r with
  | .port p => grantPort p s
  | .recirc => grantRecirc s

/-! ## Swings and ends (R145, R146, R148) -/

/-- R145: the parked owner at the end of a tenure, or of a swing that gives no grant, of requester r. -/
def Live.parkAfter (l : Live) (r : Requester) : Option Requester :=
  match l.parking with
  | 0 => some r
  | 1 => some .recirc
  | _ => none

/-- R145: a swing toward r begins. -/
def beginSwing (r : Requester) (s : State) : State :=
  setMga { s.mga with merge := .swinging r (s.live.gateSwing * Config.ticksPerDs) false, parked := none } s

/-- R146, R148: the merge becomes OPEN and the gate is parked. -/
def openMerge (r : Requester) (s : State) : State :=
  setMga { s.mga with merge := .idle, parked := s.live.parkAfter r } s

/-- R143, R145, R146: what the merge does at once: a free merge chooses, a SWUNG merge grants to its target. -/
def mergeStep (s : State) : State :=
  if s.grantsFlow then
    match s.mga.merge with
    | .swung r => grant r s
    | .idle =>
      match s.mga.choose s.live.frozenPriority s.live.rotationK with
      | none => s
      | some r => if s.mga.parked = some r then grant r s else beginSwing r s
    | _ => s
  else s

/-- R146: the request of a swing's target has been withdrawn: SWINGING goes on to its end with no grant, SWUNG ends. -/
def withdrawTarget (r : Requester) (s : State) : State :=
  match s.mga.merge with
  | .swinging t left w => setMga { s.mga with merge := .swinging t left (w || t == r) } s
  | .swung t => if t = r then openMerge r s else s
  | _ => s

/-- R110, R140: the pending request of a port is withdrawn. -/
def withdrawRequest (p : Port) (s : State) : State :=
  withdrawTarget (.port p) (setMga { s.mga with requests := s.mga.requests.filter (fun x => x.port != p) } s)

/-- R148: the tenure of r ends; nothing when r holds none. -/
def endTenure (r : Requester) (s : State) : State :=
  if s.mga.merge.holder = some r then openMerge r s else s

end Sys2Proof.Machine
end

