-- ==== Sys2Proof/Machine/Exposures.lean ====
section
/-! DEFINITION. The Exposure Timer Unit (chapter 8): points, the start of a record, warnings and recalls. -/

namespace Sys2Proof.Machine

/-- R127, Table 8-1: the warn point of a class. -/
def Live.warnPoint (l : Live) (c : CardClass) : Option Nat :=
  match l.mode c with
  | .warn => some (l.budget c)
  | .recall => none
  | .warnThenRecall => some (l.budget c)

/-- R127, Table 8-1: the recall point of a class. -/
def Live.recallPoint (l : Live) (c : CardClass) : Option Nat :=
  match l.mode c with
  | .warn => none
  | .recall => some (l.budget c)
  | .warnThenRecall => some (l.budget c + l.grace c)

/-- The exposure is at or above a point. -/
def Exposure.reached (r : Exposure) (point : Option Nat) : Bool :=
  match point with
  | some n => decide (n ≤ r.total)
  | none => false

/-- R131: to be warned. -/
def Exposure.warnDue (r : Exposure) : Bool := !r.warned && r.reached r.warnAt
/-- R132: to be recalled. -/
def Exposure.recallDue (r : Exposure) : Bool := !r.recalled && r.reached r.recallAt

/-- The record of one taking. -/
def State.findExposure (s : State) (card : Nat) (seq : Word) : Option Exposure :=
  s.exposures.find? (fun r => r.card == card && r.seq == seq)

def updateExposure (card : Nat) (seq : Word) (f : Exposure → Exposure) (s : State) : State :=
  { s with exposures := s.exposures.map (fun r => if r.card == card && r.seq == seq then f r else r) }

/-- A count for the bench of the taking's card. -/
def countForTaking (card : Nat) (seq : Word) (f : BenchCounters → BenchCounters) (s : State) : State :=
  match s.taking card seq with
  | some c => countBench c.bench f s
  | none => s

/-- R131: a warning, when it is due. -/
def warnRecord (card : Nat) (seq : Word) (s : State) : State :=
  match s.findExposure card seq with
  | none => s
  | some r =>
    if r.warnDue then
      countForTaking card seq (fun k => { k with exposureWarns := k.exposureWarns + 1 })
        (raise .exposure (portCue r.port .exposure (updateExposure card seq (fun x => { x with warned := true }) s)))
    else s

/-- R134: a record recalled while a return hold is in force is overdue. -/
def markOverdue (r : Exposure) (s : State) : State :=
  if s.mga.holdTimer = 0 then s
  else
    let t := updateExposure r.card r.seq (fun x => { x with overdue := true }) s
    match s.taking r.card r.seq with
    | none => t
    | some c =>
      report { kind := .exposureOverdue, bench := some c.bench, port := some (portByte r.port), card := some r.card,
               tag := some c.tag } t

/-- R132: a recall, when it is due: the mark, the recall of the card, EXPOSURE, the count, and the overdue mark. -/
def recallRecord (card : Nat) (seq : Word) (s : State) : State :=
  match s.findExposure card seq with
  | none => s
  | some r =>
    if r.recallDue then
      markOverdue r
        (countForTaking card seq (fun k => { k with recalls := k.recalls + 1 })
          (raise .exposure (recallTaking card seq (updateExposure card seq (fun x => { x with recalled := true }) s))))
    else s

/-- A record compared with its points, the warning first (R131, R132). -/
def compareRecord (card : Nat) (seq : Word) (s : State) : State := recallRecord card seq (warnRecord card seq s)

/-- R129: the start of a record, for a cold card with none running; it is compared at once. -/
def startExposure (c : CardCtx) (p : Port) (s : State) : State :=
  if c.cls.cold && (s.exposureOf c).isNone then
    let r : Exposure :=
      { card := c.card, seq := c.seq, cls := c.cls, base := c.exposureUsed, elapsed := 0,
        warnAt := s.live.warnPoint c.cls, recallAt := s.live.recallPoint c.cls, port := p, warned := false,
        recalled := false, overdue := false }
    compareRecord c.card c.seq { s with exposures := s.exposures ++ [r] }
  else s

/-- R135: a record follows its card to the arrival port. -/
def moveExposure (c : CardCtx) (p : Port) (s : State) : State := updateExposure c.card c.seq (fun r => { r with port := p }) s

/-- R130, R138: one floor second of a running record: it takes the points of its class as the settings now stand, then adds
its second, held at FFFFFFFFh. -/
def Exposure.second (l : Live) (r : Exposure) : Exposure :=
  { r with warnAt := l.warnPoint r.cls, recallAt := l.recallPoint r.cls, elapsed := min (r.elapsed + 1) 0xFFFFFFFF }

end Sys2Proof.Machine
end

