-- ==== Sys2Proof/Machine/Calls.lean ====
section
/-! DEFINITION. The life of a call (chapter 5): its making, refusals, cancellation, inquiry, end. -/

namespace Sys2Proof.Machine

/-- A count of 0 to 65535, held at 65535 (R81, R83). -/
def held16 (n : Nat) : Nat := min n 65535

/-- The 2 s timers of a call (R82, R87). -/
def answerTimer : CallTimer := .answer Config.ticksTwoSeconds
def inquiryTimer : CallTimer := .inquiry Config.ticksTwoSeconds

/-! ## Making a call (R80) -/

/-- The first number not in use from n upward, wrapping from 4095 to 0, within `fuel` steps. -/
def nextFree (used : List Nat) : Nat → Nat → Nat
  | 0, n => n
  | fuel + 1, n => if used.contains n then nextFree used fuel ((n + 1) % Config.callNumbers) else n

/-- R80: the number a new call takes. -/
def State.nextCallNumber (s : State) : Nat :=
  nextFree (s.lnc.calls.map (fun c => c.number)) (Config.callNumbers - 1) ((s.lnc.lastCall + 1) % Config.callNumbers)

/-- R115, R119: a lent card called to a shared port makes its bench the last-lent one. -/
def recordLend (c : CardCtx) (p : Port) (s : State) : State :=
  match portPair p with
  | some q => if c.twin then s else { s with lastLent := s.lastLent.set q c.bench }
  | none => s

/-- R80, R119: the staged card is called to the port. -/
def makeCall (c : CardCtx) (p : Port) (s : State) : State :=
  let n := s.nextCallNumber
  let call : Call :=
    { number := n, card := { c with timeCalled := some s.clock, callAttempts := 1 }, port := p, state := .called,
      retries := 0, exhausted := false, dispatchSeen := false, transitExpired := false, inquiries := 0, cancel := none,
      timer := answerTimer, transit := some s.live.transitTimeout }
  let t := unstage c s
  let u : State := { t with lnc := { t.lnc with calls := t.lnc.calls ++ [call], lastCall := n } }
  recordLend c p (count (fun k => { k with calls := k.calls + 1 }) (gridHand (.call n p c.tag) u))

/-! ## The end of a call by settling (R90) -/

/-- An exception that names the card of a call. -/
def Call.report (c : Call) (kind : ExcKind) : Report :=
  { kind := kind, bench := some c.card.bench, port := some (portByte c.port), card := some c.card.card,
    tag := some c.card.tag }

/-- R90: the record leaves the call table, the card is finished and returned. -/
def endCall (c : Call) (r : CardResult) (lr : LineResult) (s : State) : State :=
  returnCard (c.card.unpresented r lr) (removeCall c.number s)

/-- The call ends CALL_FAILED. -/
def failCall (c : Call) (s : State) : State :=
  count (fun k => { k with callFailures := k.callFailures + 1 }) (endCall c .callFailed .notPresented s)

/-- The call ends LOST_IN_TRANSIT. -/
def loseCall (c : Call) (s : State) : State :=
  report (c.report .lostInTransit)
    (count (fun k => { k with transitLosses := k.transitLosses + 1 }) (endCall c .lostInTransit .notPresented s))

/-- R89: a confirmed cancel: WITHDRAWN with the withdrawn flag, else as the cancel reason says. -/
def confirmCancel (c : Call) (s : State) : State :=
  if c.card.withdrawn then endCall c .withdrawn .withdrawn s
  else match c.cancel with
    | some .drain => endCall c .drained .notPresented s
    | some .benchClosed => endCall c .benchClosed .benchClosed s
    | _ => endCall c .withdrawn .withdrawn s

/-! ## Cancelling (R88) -/

/-- R88: CALL_CANCEL for a call in CALLED or ACCEPTED; a first cancel reason is kept. -/
def cancelCall (why : CancelReason) (c : Call) (s : State) : State :=
  if c.state = .called ∨ c.state = .accepted then
    gridHand (.callCancel c.number)
      (putCall { c with state := .cancelling, cancel := some (c.cancel.getD why), inquiries := 1, timer := inquiryTimer } s)
  else s

/-- R88: the calls that one event cancels, in the order in which they were made: neither R88 nor R119, R176 or R192 orders
them. DESIGN CHOICE, log entry 39. -/
def cancelCalls (why : CancelReason) (sel : Call → Bool) (s : State) : State :=
  (s.lnc.calls.filter sel).foldl (fun t c => cancelCall why c t) s

/-- R88: a call that returns to CALLED or ACCEPTED in DRAINING, or with its bench CLOSED, is cancelled. Where both hold R88 gives
two reasons and no order; the model takes DRAIN. DESIGN CHOICE, log entry 36. -/
def cancelIfDue (n : Nat) (s : State) : State :=
  match s.findCall n with
  | none => s
  | some c =>
    if s.pau.runState = .draining then cancelCall .drain c s
    else if s.allClosed c.card then cancelCall .benchClosed c s
    else s

/-! ## Refusals (R83, R84) -/

/-- R83: the resend gap starts and the call waits in CALLED. -/
def startGap (c : Call) (s : State) : State :=
  putCall { c with state := .called, retries := held16 (c.retries + 1), timer := .gap (s.live.retryGap * Config.ticksPerDs) } s

/-- R83, R84: a busy refusal of a call in CALLED or ACCEPTED. -/
def busyRefusal (c : Call) (s : State) : State :=
  if c.retries < s.live.retryLimit then cancelIfDue c.number (startGap c s)
  else if s.live.giveUp then report (c.report .callRetryExhausted) (failCall c s)
  else
    let t := startGap { c with exhausted := true } s
    cancelIfDue c.number (if c.exhausted then t else report (c.report .callRetryExhausted) t)

/-! ## Dispatch seen, and the transit timer's restart -/

/-- R82, R129: dispatch is seen; its first setting starts a cold card's exposure record. -/
def seeDispatch (c : Call) (s : State) : State :=
  let t := putCall { c with dispatchSeen := true } s
  if c.dispatchSeen then t else startExposure c.card c.port t

/-- R87, R89: a stopped transit timer restarts from zero, a running one runs on. -/
def restartTransit (l : Live) (c : Call) : Call :=
  { c with transit := match c.transit with | some n => some n | none => some l.transitTimeout }

/-- A call's record changed under its number as it now stands. -/
def updateCall (n : Nat) (f : Call → Call) (s : State) : State :=
  match s.findCall n with
  | some c => putCall (f c) s
  | none => s

/-- R82: DISPATCHED in CALLED or ACCEPTED. -/
def callDispatched (c : Call) (s : State) : State :=
  seeDispatch { c with state := .dispatched, timer := .none } s

/-- R89: the cancel came too late: the call is DISPATCHED and keeps its cancel reason. -/
def cancelTooLate (c : Call) (s : State) : State :=
  seeDispatch (restartTransit s.live { c with state := .dispatched, timer := .none }) s

/-! ## Inquiries (R86, R87, R89) -/

/-- INQUIRE sent as the first of an inquiry (R86, R163). -/
def beginInquiry (c : Call) (s : State) : State :=
  gridHand (.inquire c.number) (putCall { c with state := .inquiring, inquiries := 1, timer := inquiryTimer } s)

/-- R87, R89: the inquiry timer expires. -/
def inquiryExpiry (c : Call) (s : State) : State :=
  if c.inquiries ≤ s.live.retryLimit then
    gridHand (.inquire c.number) (putCall { c with inquiries := held16 (c.inquiries + 1), timer := inquiryTimer } s)
  else loseCall c s

/-- R89: CALL_STATUS PENDING answers a cancel. -/
def cancelPending (c : Call) (s : State) : State :=
  gridHand (.callCancel c.number)
    (putCall
      (restartTransit s.live
        { c with state := .cancelling, inquiries := held16 (c.inquiries + 1), timer := inquiryTimer }) s)

/-- R87: CALL_STATUS PENDING or DISPATCHED settles an inquiry. -/
def inquiryFound (dispatched : Bool) (c : Call) (s : State) : State :=
  let c' := restartTransit s.live { c with timer := .none }
  if c.dispatchSeen || dispatched then seeDispatch { c' with state := .dispatched } s
  else cancelIfDue c.number (putCall { c' with state := .accepted } s)

/-- A call in CANCELLING, or in INQUIRING with a cancel reason, is settled by R89. -/
def Call.inCancel (c : Call) : Bool := c.state == .cancelling || (c.state == .inquiring && c.cancel.isSome)

/-- Codes of CALL_REFUSE (Table 10-2). -/
def reasonBusy : Nat := 1
/-- Codes of CALL_STATUS (Table 10-2). -/
def statusPending : Nat := 1
def statusDispatched : Nat := 2

/-- R82: CALL_ACCEPT. -/
def acceptAnswer (c : Call) (s : State) : State :=
  if c.state = .called then putCall { c with state := .accepted, timer := .none } s else s

/-- R83, R85, R89: CALL_REFUSE, already counted. -/
def refuseAnswer (reason : Nat) (c : Call) (s : State) : State :=
  if c.inCancel then confirmCancel c s
  else if c.state = .called ∨ c.state = .accepted then
    (if reason = reasonBusy then busyRefusal c s else failCall c s)
  else s

/-- R82, R89: DISPATCHED. -/
def dispatchedAnswer (c : Call) (s : State) : State :=
  if c.inCancel then cancelTooLate c s
  else match c.state with
    | .called => callDispatched c s
    | .accepted => callDispatched c s
    | .inquiring => seeDispatch c s
    | _ => s

/-- R87, R89: CALL_STATUS. -/
def statusAnswer (status : Nat) (c : Call) (s : State) : State :=
  if c.inCancel then
    (if status = statusPending then cancelPending c s
     else if status = statusDispatched then cancelTooLate c s
     else confirmCancel c s)
  else if c.state = .inquiring then
    (if status = statusPending then inquiryFound false c s
     else if status = statusDispatched then inquiryFound true c s
     else failCall c s)
  else s

/-- R86: the transit timer expires. -/
def transitExpiry (c : Call) (s : State) : State :=
  if c.transitExpired then loseCall c s
  else
    let c' : Call := { c with transitExpired := true, transit := none }
    match c.state with
    | .called => beginInquiry c' s
    | .accepted => beginInquiry c' s
    | .dispatched => beginInquiry c' s
    | _ => putCall c' s

end Sys2Proof.Machine
end

