-- ==== Sys2Proof/Machine/Selector.lean ====
section
/-! DEFINITION. The Call Selector (sections 5.2, 5.3, 7.2): readiness, urgency, the cold rule, own-port and shared-port
choices; and the takes that begin on the bench chains (R36). -/

namespace Sys2Proof.Machine

/-! ## Readiness and urgency -/

/-- The put wall's answers for the lines of a staged card (R75). -/
def State.answers (s : State) (c : CardCtx) : List Query := c.lines.map (fun l => s.ask l.order c.benches)

def Query.isAccepting : Query → Bool
  | .accepting _ _ => true
  | _ => false

/-- R75. -/
def State.ready (s : State) (c : CardCtx) : Bool := (s.answers c).all Query.isAccepting

/-- At least one line is ACCEPTING (R76). -/
def State.someAccepting (s : State) (c : CardCtx) : Bool := (s.answers c).any Query.isAccepting

/-- R76: the ready-wait limit of the card has passed; the sum does not wrap. -/
def State.waitPassed (s : State) (c : CardCtx) : Bool :=
  s.live.readyWait != 0 && decide (c.timeTaken.toNat + s.live.readyWait < s.clock.toNat)

/-- Ready or partially ready. -/
def State.callable (s : State) (c : CardCtx) : Bool := s.ready c || (s.waitPassed c && s.someAccepting c)

/-- An ACCEPTING answer's deadline makes the card RUSH (R77); the sum does not wrap. -/
def State.rushDeadline (s : State) (d : Word) : Bool :=
  d != 0xFFFFFFFF && decide (d.toNat ≤ s.clock.toNat + s.live.rushMargin)

/-- R77: the earliest deadline of the card's ACCEPTING lines is RUSH, which it is when any one of them is. -/
def State.rush (s : State) (c : CardCtx) : Bool :=
  (s.answers c).any (fun a => match a with | .accepting _ d => s.rushDeadline d | _ => false)

/-! ## The cold rule (R78) -/

/-- A lane entry that counts as a cold tote pending. -/
def Entry.coldPending (e : Entry) : Bool :=
  match e.card with
  | some c => c.cls.cold && (e.state == .queued || (e.state == .waitingBench && !c.presented))
  | none => false

def State.coldPending (s : State) (p : Port) : Bool :=
  (s.portCalls p).any (fun c => c.card.cls.cold) || (s.lane p).any Entry.coldPending

/-- The cold rule lets the card go to the port. -/
def State.coldAllows (s : State) (c : CardCtx) (p : Port) : Bool := !(c.cls.cold && s.coldPending p)

/-! ## Open ports (R74, R116) -/

/-- What an own port and a shared port both need to be open. -/
def State.portRoom (s : State) (p : Port) : Bool :=
  s.pau.runState == .running && s.glc.link.up && s.st.portPresent p
  && decide (s.reservations p < s.st.laneDepth[p]) && !s.headStuck p

def State.openOwn (s : State) (b : Bench) (p : Port) : Bool := s.staffed b && s.portRoom p

/-- The open own ports of the card's bench to which the cold rule lets it go (R79). -/
def State.ownSet (s : State) (c : CardCtx) : List Port :=
  (ownPorts c.bench).filter (fun p => s.openOwn c.bench p && s.coldAllows c p)

/-! ## Choices -/

/-- The port with the fewest reservations, the lower number of two with equally few (R79); ports come in ascending order. -/
def State.fewest (s : State) : List Port → Option Port
  | [] => none
  | p :: rest =>
    match s.fewest rest with
    | none => some p
    | some q => if s.reservations p ≤ s.reservations q then some p else some q

/-- RUSH cards before the others, within each in take order (R79); staging lists are in take order (R46). -/
def State.byUrgency (s : State) (cs : List CardCtx) : List CardCtx :=
  cs.filter s.rush ++ cs.filter (fun c => !s.rush c)

/-- R79: the own-port choice of a bench. -/
def State.ownChoice (s : State) (b : Bench) : Option (CardCtx × Port) :=
  (s.byUrgency ((s.staged b).filter (fun c => !c.twin && s.callable c))).findSome? (fun c =>
    (s.fewest (s.ownSet c)).map (fun p => (c, p)))

/-- R117: the TWIN candidates of a pair's shared port. -/
def State.twinCandidates (s : State) (q : Fin 2) : List CardCtx :=
  if (pairBenches q).any s.staffed then
    (s.staged (lowerBench q)).filter (fun c => c.twin && s.callable c && s.coldAllows c (sharedPort q))
  else []

/-- R117: the lend candidates of one bench. -/
def State.lendCandidates (s : State) (q : Fin 2) (b : Bench) : List CardCtx :=
  if (s.st.lendBenches q).contains b && s.staffed b then
    (s.staged b).filter (fun c =>
      !c.twin && s.callable c && s.coldAllows c (sharedPort q) && (s.ownSet c).isEmpty)
  else []

/-- The bench of the pair that is not the last-lent one. -/
def otherBench (q : Fin 2) (last : Bench) : Bench := if last = lowerBench q then upperBench q else lowerBench q

/-- R118: the lend arbiter within one group: the bench other than the last-lent one first. -/
def State.lendChoice (s : State) (q : Fin 2) (sel : CardCtx → Bool) : Option CardCtx :=
  match (s.lendCandidates q (otherBench q s.lastLent[q])).find? sel with
  | some c => some c
  | none => (s.lendCandidates q s.lastLent[q]).find? sel

/-- R118: the choice of a pair's shared port. -/
def State.sharedChoice (s : State) (q : Fin 2) : Option (CardCtx × Port) :=
  if s.portRoom (sharedPort q) then
    let calm (c : CardCtx) : Bool := !s.rush c
    let groups := [(s.twinCandidates q).find? s.rush, s.lendChoice q s.rush, (s.twinCandidates q).find? calm,
      s.lendChoice q calm]
    (groups.findSome? id).map (fun c => (c, sharedPort q))
  else none

/-- Every choice open at this moment: the benches' own ports, then the shared ports. -/
def State.choices (s : State) : List (CardCtx × Port) :=
  allBenches.filterMap s.ownChoice ++ ([0, 1] : List (Fin 2)).filterMap s.sharedChoice

/-- One call, when any can be made. Of several choices either may be taken first (R79, R118): a free value picks (log entry
5). -/
def chooseOnce (s : State) : Option State :=
  match s.choices with
  | [] => none
  | [x] => some (makeCall x.1 x.2 s)
  | x :: rest =>
    let y := (x :: rest).getD (Config.freeChoice s.freeCount % (rest.length + 1)) x
    some (makeCall y.1 y.2 { s with freeCount := s.freeCount + 1 })

/-- R79, R118: calls are made while a port is open and a card qualifies. Each takes a card out of a staging list, so `fuel`
bounds them. -/
def callLoop : Nat → State → State
  | 0, s => s
  | fuel + 1, s => match chooseOnce s with
    | none => s
    | some t => callLoop fuel t

/-- The cards staged on all benches. -/
def State.stagedCount (s : State) : Nat := sumNat (allBenches.map (fun b => (s.staged b).length))

def selectCalls (s : State) : State := callLoop s.stagedCount s

/-! ## Takes (R36, R37) -/

/-- R36. -/
def State.takeDue (s : State) (b : Bench) : Bool :=
  s.pau.runState == .running && s.st.benchEnabled b
  && ((s.chain b).state == .atAnchor || (s.chain b).state == .following)
  && !(s.chain b).takeInFlight && decide ((s.staged b).length < Config.stagingEntries)

def setTakeMark (b : Bench) (m : Bool) (s : State) : State := setChain b { s.chain b with takeInFlight := m } s

/-- Where the next link of a chain stands: its anchor, or the next field of its cursor card (R12, R37). -/
def State.linkAddr (s : State) (b : Bench) : Nat :=
  match (s.chain b).cursor with
  | none => s.anchorAddr b
  | some c => s.cardAddr c + 0x06

/-- R36, R37: a take begins with its link read. -/
def beginTake (b : Bench) (s : State) : State :=
  if s.takeDue b then issueRead (.linkStep b (s.chain b).cursor) (s.linkAddr b) 2 (setTakeMark b true s) else s

def beginTakes (s : State) : State := allBenches.foldl (fun t b => beginTake b t) s

end Sys2Proof.Machine
end

