-- ==== Sys2Proof/Machine/Orders.lean ====
section
/-! DEFINITION. The Put Wall Unit (chapter 4): binding, counting, closing and deadlines. -/

namespace Sys2Proof.Machine

def updatePosition (q : PutPos) (f : Position → Position) (s : State) : State := setPosition q (f (s.position q)) s

/-- States of an order record (Table 1-10). -/
def stateBound : Nat := 2
def stateClosed : Nat := 3

/-! ## Binding (R57 to R61) -/

/-- The order is held or claimed at a position other than q. -/
def State.claimedElsewhere (s : State) (j : Nat) (q : PutPos) : Bool :=
  allPositions.any (fun r => r != q && (s.position r).order == some j)

/-- A binding that fails: the position is EMPTY, its claim released, and its PLACE refused. -/
def failBinding (q : PutPos) (r : Reason) (s : State) : State := answerPlace q r (setPosition q Position.empty s)

/-- R58: an answer of the TTU to a binding's lookup. -/
def bindingAnswered (q : PutPos) (a : LookupAnswer) (s : State) : State :=
  let e := s.position q
  if e.stale then setPosition q { e with stale := false } s
  else if e.state = .binding ∧ e.step = .lookup then
    match a with
    | .busy => failBinding q .busy s
    | .entry (.order j) =>
      if s.claimedElsewhere j q then failBinding q .alreadyBound s
      else issueRead (.orderRecord q j) (s.orderAddr j) 32 (setPosition q { e with order := some j, step := .read } s)
    | _ => failBinding q .unknownTote s
  else s

/-- The floor clock stands beyond a deadline (R69). -/
def beyond (clock deadline : Word) : Bool := decide (deadline.toNat < clock.toNat)

/-- The result part of a position's order record (R60, R68). -/
def Position.part (e : Position) (q : PutPos) (reason : CloseReason) (closed : Option Word) : OrderPart :=
  { reason := reason, pos := q, late := e.late, linesCompleted := e.linesCompleted, unitsPut := e.unitsPut,
    timeBound := e.timeBound, timeClosed := closed }

/-- The result part of an order record, then its state byte (R7). -/
def writeOrder (j : Nat) (part : OrderPart) (state : Nat) (s : State) : State :=
  post (s.orderAddr j) (natToBytes 1 state) (post (s.orderAddr j + 0x20) part.bytes s)

/-- R60: the record is bound. -/
def bindOrder (q : PutPos) (j : Nat) (o : OrderBytes) (s : State) : State :=
  let e : Position :=
    { s.position q with
      state := .bound, order := some j, linesExpected := o.linesExpected, deadline := o.deadline, linesCompleted := 0,
      unitsPut := 0, timeBound := s.clock, late := beyond s.clock o.deadline }
  let t := answerPlace q .accept (writeOrder j (e.part q .none none) stateBound (setPosition q e s))
  if e.late then raise .lateOrder t else t

/-- R59: the data of a binding's order record read. -/
def orderRecordReturned (q : PutPos) (j : Nat) (data : List Byte) (s : State) : State :=
  let e := s.position q
  if e.stale then setPosition q { e with stale := false } s
  else if e.state = .binding ∧ e.step = .read ∧ e.order = some j then
    let o := parseOrder data
    if o.state ≠ statePosted then failBinding q .unknownTote s
    else if !o.checkOk then
      report { kind := .checkFail, bench := some (posBench q), order := some j, tag := some e.scanned }
        (failBinding q .unknownTote s)
    else if o.tag ≠ e.scanned then failBinding q .unknownTote s
    else if o.bench ≠ (posBench q).val then failBinding q .wrongBench s
    else bindOrder q j o s
  else s

/-! ## Leaving BOUND and closing (R63 to R68) -/

/-- R16: the binding that stage-5 reads of this position were made for has ended. -/
def forgetOrderFlags (q : PutPos) (s : State) : State :=
  { s with bus := { s.bus with reads := s.bus.reads.map (fun r =>
      match r.purpose with
      | .orderFlags p j _ => if p = q then { r with purpose := .orderFlags p j false } else r
      | _ => r) } }

/-- A BOUND position stops taking goods: its acceptance is withdrawn with ORDER_FULL (R64). -/
def stopAccepting (q : PutPos) (st : PosState) (s : State) : State :=
  let e := s.position q
  let t := setPosition q { e with state := st } s
  match e.order with
  | some j => withdrawAcceptance j .orderFull t
  | none => t

/-- CLOSE_CUE to the panel of the position's bench (R63, R65). -/
def closeCue (q : PutPos) (s : State) : State := benchHand (posBench q) (.closeCue (posIndex q)) s

/-- R68: the CLOSED write of the order at a position, then ORDER_CLOSED; the position becomes EMPTY. -/
def closeOrder (q : PutPos) (reason : CloseReason) (s : State) : State :=
  let e := s.position q
  let t := forgetOrderFlags q (setPosition q Position.empty s)
  match e.order with
  | some j => raise .orderClosed (writeOrder j (e.part q reason (some s.clock)) stateClosed t)
  | none => t

/-- R61: a REMOVE of a BINDING position abandons the binding. -/
def abandonBinding (q : PutPos) (s : State) : State :=
  answerPlace q .cancelled (setPosition q { Position.empty with stale := true } s)

/-- R61, R66, R67, Table 4-3: a REMOVE taken by a position; its answer is ACCEPT in every state. -/
def removeAt (q : PutPos) (s : State) : State :=
  let e := s.position q
  match e.state with
  | .empty => s
  | .binding => abandonBinding q s
  | .bound =>
    let t := match e.order with | some j => withdrawAcceptance j .orderAbsent s | none => s
    report { kind := .removedEarly, bench := some (posBench q), order := e.order, tag := some e.scanned }
      (closeOrder q .removedEarly t)
  | .complete => closeOrder q .complete s
  | .full => closeOrder q .full s
  | .closing => closeOrder q .closeRequested s

/-- R65: CLOSE_REQUEST seen by stage 5. -/
def closeRequested (q : PutPos) (s : State) : State :=
  if (s.position q).state = .bound then stopAccepting q .closing (closeCue q s) else s

/-! ## Counting (R62, R63) -/

/-- R62: u units put for order j. -/
def reportUnits (j : Nat) (u : Nat) (s : State) : State :=
  match s.holder j with
  | none => s
  | some q =>
    countBench (posBench q) (fun k => { k with unitsPut := k.unitsPut + BitVec.ofNat 32 u })
      (updatePosition q (fun e => { e with unitsPut := e.unitsPut + BitVec.ofNat 32 u }) s)

/-- R62, R63: one completed line of order j. -/
def reportLine (j : Nat) (s : State) : State :=
  match s.holder j with
  | none => s
  | some q =>
    let e := s.position q
    let n := min (e.linesCompleted + 1) 0xFFFF
    let t := countBench (posBench q) (fun k => { k with linesComplete := k.linesComplete + 1 })
      (setPosition q { e with linesCompleted := n } s)
    if e.state = .bound ∧ e.linesExpected ≠ 0 ∧ n = e.linesExpected then stopAccepting q .complete (closeCue q t) else t

/-! ## Deadlines and changes of run state (R69, R71) -/

/-- R69: the position is to be found late. -/
def State.lateDue (s : State) (q : PutPos) : Bool :=
  (s.position q).state == .bound && !(s.position q).late && beyond s.clock (s.position q).deadline

def findLate (q : PutPos) (s : State) : State :=
  if s.lateDue q then raise .lateOrder (updatePosition q (fun e => { e with late := true }) s) else s

/-- R71: a BINDING position at entry to FAULTED or the end of a drain. -/
def cancelBinding (q : PutPos) (s : State) : State :=
  if (s.position q).state = .binding then failBinding q .cancelled s else updatePosition q (fun e => { e with stale := false }) s

/-- R71: every binding cancelled, every stale flag cleared. -/
def cancelBindings (s : State) : State := allPositions.foldl (fun t q => cancelBinding q t) s

/-- R71: the orders still held at the end of a drain are written CLOSED, in ascending put position order. -/
def closeDrained (s : State) : State :=
  allPositions.foldl (fun t q => if (t.position q).state.holds then closeOrder q .drained t else t) s

end Sys2Proof.Machine
end

