-- ==== Sys2Proof/Machine/Tags.lean ====
section
/-! DEFINITION. The Tag Translation Unit (chapter 2): lookups, the cache, the miss list, table reads and flushes. -/

namespace Sys2Proof.Machine

def setTtu (t : Ttu) (s : State) : State := { s with ttu := t }

/-- R97: the report of an unmatched arrival, when its lookup answers. -/
def reportUnmatched (p : Port) (tag : Word) (a : LookupAnswer) (s : State) : State :=
  let card := match a with | .entry (.card i) => some i | _ => none
  let order := match a with | .entry (.order j) => some j | _ => none
  report { kind := .unmatchedArrival, bench := reportBench p, port := some (portByte p), card := card, order := order,
           tag := some tag } s

/-- R22: an answer handed to the block that asked. -/
def deliver (asker : Asker) (tag : Word) (a : LookupAnswer) (s : State) : State :=
  match asker with
  | .place q => bindingAnswered q a s
  | .arrival p => reportUnmatched p tag a s

/-- R26: when no read is in flight and a lookup waits, the table entry of the oldest one is read. -/
def startMiss (s : State) : State :=
  match s.ttu.inFlight with
  | some _ => s
  | none => match s.ttu.misses with
    | [] => s
    | l :: _ =>
      issueRead (.tagEntry l.tag) (s.tagAddr l.tag) 4
        (setTtu { s.ttu with inFlight := some { tag := l.tag, stale := false } } s)

/-- The entry of a tag in the cache (R24). -/
def State.cached (s : State) (tag : Word) : Option CacheEntry := s.ttu.cache.find? (fun e => e.tag == tag)

/-- R24: the entry that was hit becomes the most recent; the others keep their order. -/
def touch (e : CacheEntry) (cache : List CacheEntry) : List CacheEntry := e :: cache.filter (fun f => f.tag != e.tag)

/-- R21, R24, R25: a lookup. -/
def lookup (tag : Word) (asker : Asker) (s : State) : State :=
  if !s.active then deliver asker tag .busy s
  else if !s.st.inWindow tag then deliver asker tag .foreign s
  else match s.cached tag with
    | some e => deliver asker tag (.entry e.meaning) (setTtu { s.ttu with cache := touch e s.ttu.cache } s)
    | none =>
      if s.ttu.misses.length < Config.missEntries then
        startMiss (setTtu { s.ttu with misses := s.ttu.misses ++ [{ tag := tag, asker := asker, before := false }] } s)
      else deliver asker tag .busy s

/-- R29: a fresh translation installed as the most recent entry; the least recent of 16 leaves. -/
def install (tag : Word) (m : Translation) (cache : List CacheEntry) : List CacheEntry :=
  ({ tag := tag, meaning := m } : CacheEntry) :: cache.take (Config.cacheEntries - 1)

/-- R28: the lookups that a returned read answers: those of its tag, when it is stale only those from before the flush. -/
def Lookup.answeredBy (m : MissRead) (l : Lookup) : Bool := l.tag == m.tag && (!m.stale || l.before)

/-- R28: a miss read returns its translation. The waiters are answered in the order they joined, a fresh translation is
installed, the next read starts. -/
def translationReturned (m : MissRead) (entry : Word) (s : State) : State :=
  let meaning := translationOf s.st entry
  let waiters := s.ttu.misses.filter (fun l => l.answeredBy m)
  let cache := if m.stale then s.ttu.cache else install m.tag meaning s.ttu.cache
  let t := setTtu
    { cache := cache, misses := s.ttu.misses.filter (fun l => !l.answeredBy m), inFlight := none } s
  startMiss (waiters.foldl (fun u l => deliver l.asker l.tag (.entry meaning) u) t)

/-- R30: a flush. -/
def flush (s : State) : State :=
  match s.ttu.inFlight with
  | none => setTtu { s.ttu with cache := [] } s
  | some m => setTtu
      { cache := [], misses := s.ttu.misses.map (fun l => { l with before := true }),
        inFlight := some { m with stale := true } } s

/-- R31: the miss list emptied without answers and the read in flight given up; the cache is kept. -/
def emptyMisses (s : State) : State := setTtu { s.ttu with misses := [], inFlight := none } s

end Sys2Proof.Machine
end

