-- ==== Sys2Proof/Machine/Run.lean ====
section
/-! DEFINITION. Changes of run state (chapter 13): settling after an event, draining, faulting, Clear and resets, STARTING. -/

namespace Sys2Proof.Machine

def setPau (p : Pau) (s : State) : State := { s with pau := p }

/-! ## FAULTED (R191) -/

/-- R71: the bindings cancelled at entry to FAULTED; the other positions keep what they hold. R18: no sweep is left. -/
def abandonSweep (s : State) : State := setPau { s.pau with sweep := none, sweepTimer := none, editionDue := false } s

/-- R45, R54: no take is in flight any more. -/
def clearTakeMarks (s : State) : State :=
  { s with cdm := { s.cdm with chains := s.cdm.chains.map (fun c => { c with takeInFlight := false }) } }

def clearGridQueue (s : State) : State := setGridLink s.glc.link.clearQueue s

/-- R191: the entry to FAULTED. -/
def enterFaulted (s : State) : State :=
  setRunState .faulted
    (panelResets (clearGridQueue (cancelBindings (clearTakeMarks (emptyMisses (discardReads (abandonSweep
      (setPau { s.pau with drainDue := false } s))))))))

/-! ## Draining (R192) -/

/-- R46: every staged card is finished DRAINED. -/
def finishAllStaged (s : State) : State :=
  allBenches.foldl (fun t b => (t.staged b).foldl (fun u c => finishStaged .drained .notPresented c u) t) s

/-- R192: the entry to DRAINING. The dispatch holds that its cancels end (R164, R166) are found afresh by the settling that
follows, after the Status Block write: the manual does not say which comes first. DESIGN CHOICE, log entry 38. The calls are
cancelled in the order made. DESIGN CHOICE, log entry 39. -/
def enterDraining (s : State) : State :=
  setRunState .draining (cancelCalls .drain (fun _ => true) (finishAllStaged s))

/-- R192: every lane and call table is empty and the merge is OPEN. -/
def State.drained (s : State) : Bool :=
  s.lnc.calls.isEmpty && allPorts.all (fun p => (s.lane p).isEmpty) && s.mga.merge == .idle

/-- R153: the merge at the end of a drain. -/
def Mga.drained (m : Mga) : Mga := { m with requests := [], recircFlag := false, recircTimedOut := false, holdTimer := 0 }

/-- R192: the end of a drain, in the order of that rule. -/
def endDrain (s : State) : State :=
  let a := discardReads (abandonSweep s)
  let b := panelResets (closeDrained (cancelBindings a))
  let c := lapseHolds (clearGridQueue b)
  setRunState .stopped (setMga c.mga.drained (clearTakeMarks (emptyMisses c)))

/-- R192: the end condition, tested in DRAINING. -/
def drainTest (s : State) : State := if s.pau.runState = .draining ∧ s.drained then endDrain s else s

/-! ## Settling -/

/-- What an event in RUNNING or DRAINING calls for at once, once its own work is done: holds found afresh (R164), the choice
or grant of the merge (R143, R146), the calls the selector can make (R79, R118), the takes that can begin (R36), the end
condition of a drain (R192). The order is DEDUCED, log entry 12. -/
def settle (s : State) : State :=
  if s.active then drainTest (beginTakes (selectCalls (mergeStep (refreshHolds s)))) else s

/-! ## Clear and resets (R193) -/

/-- R155: the Grid Link Controller at a Clear. -/
def Glc.cleared (g : Glc) : Glc := { link := g.link.clearQueue, holds := .replicate 10 PortHold.flowing }

/-- R170: a Bench Link Controller at a Clear. -/
def Blc.cleared (c : Blc) : Blc :=
  { link := c.link.clearQueue, staffing := .closed, picker := 0, awaited := none, lastTicket := 255 }

/-- R193: the PAU's own state at a Clear. -/
def Pau.cleared (p : Pau) : Pau :=
  { p with run := false, runState := .stopped, resetCause := .clear, errorCode := 0, editionDue := false,
           drainDue := false, sweep := none, sweepTimer := none }

/-- R193: every block empties its on-chip state. -/
def clearBlocks (s : State) : State :=
  { discardReads s with
    pau := s.pau.cleared
    ttu := Ttu.initial
    cdm := Cdm.initial
    wall := .replicate 64 Position.empty
    lnc := Lnc.initial
    lastLent := lastLentInitial
    exposures := []
    mga := Mga.initial
    glc := s.glc.cleared
    blc := s.blc.map Blc.cleared
    ntu := { s.ntu with capture := Capture.initial, counters := Counters.zero } }

/-- R193: EVENTS becomes 0 and every signal condition is found false. -/
def clearEvents (s : State) : State := findSignals false { s with ntu := { s.ntu with events := 0 } }

/-- R193: a Clear. RUN_STATE is raised when the run state changes. -/
def clearAll (s : State) : State :=
  let t := writeStatus (clearBlocks s)
  let u := if s.pau.runState = .stopped then t else raise .runState t
  clearEvents (panelResets u)

/-- R193: a power-on or bus reset. The host's side of the endpoint is kept: the writes posted so far, and the reads still in
flight, whose data is discarded. -/
def resetAll (cause : ResetCause) (s : State) : State :=
  { State.reset with
    pau := { Pau.initial with resetCause := cause }
    bus := (discardReads s).bus
    freeCount := s.freeCount
    pending := s.pending }

/-! ## STARTING (R188, R189) -/

/-- R189: STARTING begins: the Status Block write, then the read of the Settings Block. -/
def beginStarting (s : State) : State :=
  let t := setRunState .starting (setPau { s.pau with drainDue := false, sweepTimer := none } s)
  issueRead .settings t.areaBase 256 t

/-- R14: the timed-sweep timer from zero, none for code 0. -/
def Live.sweepReload (l : Live) : Option Nat :=
  if l.sweepCode = 0 then none else some ((l.sweepCode + 1) * Config.ticksPerQuarter)

/-- R175, R180: a bench that the settings leave not enabled is made CLOSED with picker 0. No STAFFING is raised: STARTING leaves
EVENTS as it stands (section 12.1), and Table 12-1 gives the event to R176, R177 and R179. -/
def closeUnenabled (b : Bench) (s : State) : State :=
  if s.st.benchEnabled b then s else setBench b { s.bench b with staffing := .closed, picker := 0 } s

/-- R189: the settings taken together; each signal condition is found under the new grouping and sends nothing (R184). -/
def takeSettings (st : Structural) (l : Live) (s : State) : State :=
  findSignals true (setPau
    { s.pau with
      structural := some st, live := some l, errorCode := 0, floorClock := st.clockBase,
      completedEdition := s.pau.writtenEdition, editionDue := false, writeSeq := 0 } s)

/-- R189: every block empties its on-chip collections; counters are zeroed, awaited messages cleared (R180). -/
def startBlocks (s : State) : State :=
  { s with
    ttu := Ttu.initial
    cdm := Cdm.initial
    wall := .replicate 64 Position.empty
    lnc := Lnc.initial
    lastLent := lastLentInitial
    exposures := []
    mga := Mga.initial
    glc := { s.glc with holds := .replicate 10 PortHold.flowing }
    blc := s.blc.map (fun c => { c with awaited := none })
    ntu := { s.ntu with counters := Counters.zero } }

/-- R189: the entry to RUNNING: its Status Block write and RUN_STATE, the timed-sweep timer, the takes. -/
def enterRunning (s : State) : State :=
  let t := setRunState .running s
  settle (setPau { t.pau with sweepTimer := t.live.sweepReload } t)

/-- R189: the settings read back are accepted. -/
def startAccepted (st : Structural) (l : Live) (s : State) : State :=
  let t := allBenches.foldl (fun u b => closeUnenabled b u) (startBlocks (takeSettings st l s))
  let due := t.pau.drainDue
  let u := enterRunning (setPau { t.pau with drainDue := false } t)
  if due then settle (enterDraining u) else u

/-! ## Staffing changes (R176) -/

/-- R176 step 2: the ports whose heads act on a change of bench b: its own ports, then the shared port of its pair. Of the own
ports the lower acts first: no rule orders them. DESIGN CHOICE, log entry 35. -/
def headsOf (b : Bench) (f : Port → State → State) (s : State) : State := (reachedPorts b).foldl (fun t p => f p t) s

/-- R176 steps 2 and 3: the lanes and the calls act on the new staffing state, in RUNNING and DRAINING (R179). The calls that
a closing cancels go in the order made: no rule orders them. DESIGN CHOICE, log entry 39. -/
def staffingActs (b : Bench) (new : Staffing) (s : State) : State :=
  if !s.active then s
  else match new with
    | .onBreak => headsOf b (darkenHead b) s
    | .staffed => headsOf b (relightHead b) s
    | .closed =>
      let t := headsOf b (closeHead b) s
      cancelCalls .benchClosed (fun c => c.card.benches.contains b && t.allClosed c.card) t

/-- R176: a change of a bench's staffing state, up to STAFFING. The holds, the ANSWER and the choices follow in the event. -/
def changeStaffing (b : Bench) (new : Staffing) (picker : Half) (s : State) : State :=
  raise .staffing (staffingActs b new (setBench b { s.bench b with staffing := new, picker := picker } s))

end Sys2Proof.Machine
end

