-- ==== Sys2Proof/Machine/Sweeps.lean ====
section
/-! DEFINITION. Sweeps (section 1.7), the application of live settings, the steps of a take (section 3.2) and withdrawal
(section 3.4). -/

namespace Sys2Proof.Machine

/-! ## Sweep stages (Table 1-5) -/

def setSweep (w : Option Sweep) (s : State) : State := setPau { s.pau with sweep := w } s

/-- The stage a read belongs to. -/
def ReadFor.stage : ReadFor → Option SweepStage
  | .stamp => some .stamp
  | .liveSettings => some .liveSettings
  | .starved _ _ _ => some .starved
  | .cardFlags _ _ => some .cardFlags
  | .orderFlags _ _ _ => some .orderFlags
  | _ => none

/-- Reads of the stage have not all ended. -/
def State.stageReading (s : State) (g : SweepStage) : Bool :=
  s.bus.reads.any (fun r => !r.discarded && r.purpose.stage == some g)

/-- The sweep in flight waits for this stage, with reads out. -/
def enterStage (g : SweepStage) (s : State) : State := setSweep (s.pau.sweep.map (fun w => { w with stage := g })) s

/-- R13: an edition sweep for v begins with its stamp read (R11). -/
def beginEditionSweep (v : Word) (s : State) : State :=
  issueRead .stamp s.areaBase 4 (setSweep (some { kind := .edition v, stage := .stamp }) s)

/-- R13, R18: the sweep ends; with edition due set, an edition sweep for the written edition begins at once. -/
def endSweep (s : State) : State :=
  let t := setSweep none s
  if t.pau.editionDue then beginEditionSweep t.pau.writtenEdition (setPau { t.pau with editionDue := false } t) else t

/-- R17: stage 6. -/
def stage6 (s : State) : State :=
  let t := writeStatus s
  match s.pau.sweep with
  | some { kind := .edition v, stage := _ } =>
    endSweep (raise .sweepDone (setPau { t.pau with completedEdition := v } t))
  | _ => endSweep t

/-- R16: the read of one order record's flags. -/
def readOrderFlags (q : PutPos) (s : State) : State :=
  match (s.position q).order with
  | some j => if (s.position q).state.holds then issueRead (.orderFlags q j true) (s.orderAddr j + 0x01) 1 s else s
  | none => s

/-- R16: stage 5 reads the flags of every order record written BOUND and not yet CLOSED, asked for in ascending put position.
DESIGN CHOICE, log entry 34. -/
def stage5 (s : State) : State :=
  let t := allPositions.foldl (fun u q => readOrderFlags q u) s
  if t.stageReading .orderFlags then enterStage .orderFlags t else stage6 t

/-- R16: stage 4 reads the flags of every held card, asked for by staging lists, calls and lanes. DESIGN CHOICE, log entry 34. -/
def stage4 (s : State) : State :=
  let t := s.held.foldl (fun u c => issueRead (.cardFlags c.card c.seq) (u.cardAddr c.card + 0x01) 1 u) s
  if t.stageReading .cardFlags then enterStage .cardFlags t else stage5 t

/-- R15: one starved chain looked at again. -/
def readStarved (b : Bench) (s : State) : State :=
  let c := s.chain b
  if s.st.benchEnabled b then
    match c.state with
    | .starvedAtAnchor => issueRead (.starved b true c.cursor) (s.anchorAddr b) 2 s
    | .starvedAtLink => issueRead (.starved b false c.cursor) (s.linkAddr b) 2 s
    | _ => s
  else s

/-- R15: stage 3, passed over in DRAINING. -/
def stage3 (s : State) : State :=
  let t := if s.pau.runState = .running then allBenches.foldl (fun u b => readStarved b u) s else s
  if t.stageReading .starved then enterStage .starved t else stage4 t

/-- R15: stage 2 flushes the tag cache. -/
def stage2 (s : State) : State := stage3 (flush s)

/-- The next stage begins when every read of the stage in flight has ended (R11, R15, R16). -/
def advanceSweep (s : State) : State :=
  match s.pau.sweep with
  | none => s
  | some w =>
    if s.stageReading w.stage then s
    else match w.stage with
      | .stamp => stage2 s
      | .liveSettings => stage2 s
      | .starved => stage4 s
      | .cardFlags => stage5 s
      | .orderFlags => stage6 s

/-! ## Live settings at a sweep (R10, R11) -/

/-- R10, R14, R184: all live settings become the part's together. -/
def applyLive (l : Live) (s : State) : State :=
  let timer := if l.sweepCode = s.live.sweepCode then s.pau.sweepTimer else l.sweepReload
  findSignals true (setPau { s.pau with live := some l, errorCode := 0, sweepTimer := timer } s)

/-- R11: live settings that fail a check. -/
def refuseLive (code : Nat) (s : State) : State :=
  report { kind := .settingsRefused } (raise .settingsRefused (setPau { s.pau with errorCode := code } s))

def liveReturned (l : Live) (s : State) : State := if liveError l = 0 then applyLive l s else refuseLive (liveError l) s

/-! ## Steps of a take (R36 to R44) -/

/-- R35: the take ends with the chain starved, the cursor as it was. -/
def starve (b : Bench) (s : State) : State :=
  let c := s.chain b
  setChain b
    { c with
      state := if c.cursor.isNone then .starvedAtAnchor else .starvedAtLink
      takeInFlight := false } s

/-- R38: the index check, and the card read of an index that passes it. -/
def indexCheck (b : Bench) (i : Nat) (s : State) : State :=
  if i < s.st.cardCount then issueRead (.cardStep b i) (s.cardAddr i) 64 (setTakeMark b true s)
  else starve b (report { kind := .badCard, bench := some b, card := some i } s)

/-- No card (R12). -/
def noCard : Half := 0xFFFF

/-- R37, R45: the link step's data. -/
def linkReturned (b : Bench) (value : Half) (s : State) : State :=
  if s.pau.runState = .running then (if value = noCard then starve b s else indexCheck b value.toNat s)
  else setTakeMark b false s

/-- R15, R44: a value stage 3 read. It ends the starving of a chain that is still starved as it was read for. -/
def starvedReturned (b : Bench) (atAnchor : Bool) (cursor : Option Nat) (value : Half) (s : State) : State :=
  let c := s.chain b
  let still := c.cursor = cursor ∧ c.state = (if atAnchor then .starvedAtAnchor else .starvedAtLink)
  if s.pau.runState = .running ∧ still ∧ value ≠ noCard then
    indexCheck b value.toNat (setChain b { c with state := if atAnchor then .atAnchor else .following } s)
  else s

/-- R53: a card finished at its take, its used lines all with one result. -/
def finishAtTake (card : Nat) (k : CardBytes) (r : CardResult) (lr : LineResult) (s : State) : State :=
  let exposure := match classOf k.cls with | some c => if c.cold then k.exposureUsed else 0 | none => 0
  writeDone card
    { result := r, port := none, adopted := false, misrouted := false, stuck := false, lateArrival := false,
      attempts := 0, exposure := exposure, taken := s.clock, called := none, arrived := none, presented := none,
      finished := s.clock, lines := k.used.map (fun l => (0, lr.code, l.2)) } s

/-- R43: the context of an accepted card. -/
def CardBytes.context (card : Nat) (seq : Word) (b : Bench) (cls : CardClass) (now : Word) (k : CardBytes) : CardCtx :=
  { card := card, seq := seq, bench := b, twin := k.twin, cls := cls, tag := k.tag, exposureUsed := k.exposureUsed,
    lines := k.used.map Line.fresh, timeTaken := now, timeCalled := none, callAttempts := 0, timeArrived := none,
    portPresented := none, timePresented := none, adopted := false, misrouted := false, stuck := false,
    lateArrival := false, withdrawn := false, recalled := false, result := none, exposureTotal := none }

/-- R43: the card joins the tail of its bench's staging list with the next take sequence number. -/
def acceptCard (card : Nat) (b : Bench) (cls : CardClass) (k : CardBytes) (s : State) : State :=
  let t := setStaged b (s.staged b ++ [k.context card s.cdm.takeSeq b cls s.clock]) s
  { t with cdm := { t.cdm with takeSeq := t.cdm.takeSeq + 1 } }

/-- R40 to R43: the checks of a card whose taking has begun. -/
def checkCard (card : Nat) (b : Bench) (k : CardBytes) (s : State) : State :=
  if !k.checkOk then
    report { kind := .checkFail, bench := some b, card := some card, tag := some k.tag }
      (finishAtTake card k .badCard .notPresented s)
  else if !k.fieldsGood s.st b then
    report { kind := .badCard, bench := some b, card := some card, tag := some k.tag }
      (finishAtTake card k .badCard .notPresented s)
  else if k.spent s.live then finishAtTake card k .exposureSpent .notPresented s
  else if k.withdraw then finishAtTake card k .withdrawn .withdrawn s
  else match classOf k.cls with
    | some cls => acceptCard card b cls k s
    | none => s

/-- R33, R39: a taking begins: TAKEN is written, the card is the cursor, the chain FOLLOWING, the take has ended. -/
def beginTaking (card : Nat) (b : Bench) (s : State) : State :=
  setChain b { state := .following, cursor := some card, takeInFlight := false }
    (post (s.cardAddr card) (natToBytes 1 stateTaken) s)

/-- R39, R45: the card step's data. -/
def cardReturned (b : Bench) (card : Nat) (data : List Byte) (s : State) : State :=
  if s.pau.runState = .running then
    let k := parseCard data
    if k.state ≠ statePosted ∨ s.holdsCard card then starve b s else checkCard card b k (beginTaking card b s)
  else setTakeMark b false s

/-! ## Withdrawal (R47 to R49) -/

/-- R47: the card of a taking is withdrawn, by its position. -/
def withdrawTaking (card : Nat) (seq : Word) (s : State) : State :=
  match s.taking card seq with
  | none => s
  | some c =>
    if c.withdrawn then s
    else
      let t := updateTaking card seq (fun x => { x with withdrawn := true }) s
      if (s.staged c.bench).any (fun x => x.named card seq) then
        finishStaged .withdrawn .withdrawn { c with withdrawn := true } t
      else
        allPorts.foldl (fun u p => withdrawHead card seq p u)
          (cancelCalls .withdrawal (fun x => x.card.named card seq) t)

/-- R16, R47: stage-4 data. -/
def cardFlagsReturned (card : Nat) (seq : Word) (flags : Byte) (s : State) : State :=
  if flags.getLsbD 1 then withdrawTaking card seq s else s

/-- R16, R65: stage-5 data, for a record still held under the same binding. -/
def orderFlagsReturned (q : PutPos) (held : Bool) (flags : Byte) (s : State) : State :=
  if held && flags.getLsbD 0 then closeRequested q s else s

/-! ## Bus errors (R6, R31) -/

/-- What a BUS_ERROR report names: the card or order the read was for, or the tag in flight. -/
def ReadFor.busReport : ReadFor → Report
  | .starved _ _ (some c) => { kind := .busError, card := some c }
  | .linkStep _ (some c) => { kind := .busError, card := some c }
  | .cardFlags c _ => { kind := .busError, card := some c }
  | .cardStep _ c => { kind := .busError, card := some c }
  | .orderFlags _ j _ => { kind := .busError, order := some j }
  | .orderRecord _ j => { kind := .busError, order := some j }
  | .tagEntry tag => { kind := .busError, tag := some tag }
  | _ => { kind := .busError }

/-- The run states in which a bus error faults the part (R191). -/
def RunState.faultable : RunState → Bool
  | .starting => true
  | .running => true
  | .draining => true
  | _ => false

/-- R189: a bus error in STARTING leaves settings error code 0. -/
def startingError (s : State) : State := if s.pau.runState = .starting then setPau { s.pau with errorCode := 0 } s else s

/-- R6, R191: a bus error on a read in flight; on a discarded one it reports nothing and changes no run state. -/
def busError (id : Nat) (s : State) : State :=
  match s.findRead id with
  | none => s
  | some r =>
    let t := endRead id s
    if r.discarded || !s.pau.runState.faultable then t
    else enterFaulted (startingError (report r.purpose.busReport t))

end Sys2Proof.Machine
end

