-- ==== Sys2Proof/Machine/GridFrames.lean ====
section
/-! DEFINITION. The meanings of the Grid Link's events and messages (chapter 10, with the rules of chapters 5, 6 and 9 that
take each message). -/

namespace Sys2Proof.Machine

/-! ## The link -/

/-- R162: every call in doubt, its short timers stopped. -/
def doubtCalls (s : State) : State :=
  { s with lnc := { s.lnc with calls := s.lnc.calls.map (fun c => { c with state := .uncertain, timer := .none }) } }

/-- R159, R162, R167: 2 s without a good frame. -/
def execGridLinkDown (s : State) : Out :=
  .next (if s.glc.link.up then
      let t := raise .gridLink (setGridLink { s.glc.link.clearQueue with up := false } s)
      if t.active then settle (lapseHolds (doubtCalls t)) else t
    else s)

/-- R157. -/
def execGridIdleLineCheck (s : State) : Out := .next (setGridLink (s.glc.link.idleExpiry .lineCheck) s)

/-- R156: the frame being sent ends. -/
def execGridFrameSent (s : State) : Out :=
  .next (if s.glc.link.sending.isSome then setGridLink (s.glc.link.frameSent .lineCheck) s else s)

/-- R158: a dropped frame counted, the assembler hunting again. -/
def dropGridFrame (bytes : List Byte) (s : State) : State :=
  countGridFrameError (setGridLink (s.glc.link.droppedFrame bytes) s)

/-- R158: 1 ds without a byte within a frame. -/
def execGridFrameGapTimeout (bytes : List Byte) (s : State) : Out :=
  .next (if frameVerdict gridPayloadLength bytes = .incomplete ∧ s.glc.link.stalls bytes then dropGridFrame bytes s else s)

/-- R158: a frame that fails a check. -/
def execGridFrameError (bytes : List Byte) (s : State) : Out :=
  .next (if frameVerdict gridPayloadLength bytes = .dropped ∧ s.glc.link.collects bytes then dropGridFrame bytes s else s)

/-- Calls in ascending call number. -/
def insertCall (c : Call) : List Call → List Call
  | [] => [c]
  | d :: rest => if c.number ≤ d.number then c :: d :: rest else d :: insertCall c rest

def byNumber (cs : List Call) : List Call := cs.foldr insertCall []

/-- R163: INQUIRE for every UNCERTAIN call, in ascending call number. -/
def inquireAll (s : State) : State :=
  (byNumber (s.lnc.calls.filter (fun c => c.state == .uncertain))).foldl (fun t c => beginInquiry c t) s

/-- R159, R163, R167: the link becomes UP, its actions done in full. -/
def gridLinkUp (s : State) : State :=
  let t := raise .gridLink (setGridLink { s.glc.link with up := true } s)
  if t.active then settle (resumeHolds (inquireAll t)) else t

/-- R159: a good frame with a payload of this many bytes received: the silence timer restarts, and a link that was DOWN comes
UP. -/
def gridGood (payload : Nat) (s : State) : State :=
  let t := setGridLink (s.glc.link.goodFrame payload) s
  if s.glc.link.up then t else gridLinkUp t

/-- R160: a message other than LINE_CHECK, with a payload of this many bytes (Table 10-2), taken in RUNNING and DRAINING and
discarded in the other run states. -/
def gridMessageTaken (payload : Nat) (k : State → State) (s : State) : State :=
  let t := gridGood payload s
  if t.active then k t else t

/-- R157, R159: LINE_CHECK counts for the link state only. -/
def execGridLineCheck (s : State) : Out := .next (gridGood 0 s)

/-! ## Answers to calls (R161, R82, R83, R87) -/

/-- A GRID_PROTOCOL report with the port and tag of the message. -/
def gridProtocol (port : Option Byte) (tag : Option Word) (s : State) : State :=
  report { kind := .gridProtocol, port := port, tag := tag } s

/-- R161: a message that names a call; a number not in use is reported. -/
def forCall (call : Half) (k : Call → State → State) (s : State) : State :=
  match s.findCall call.toNat with
  | none => gridProtocol none none s
  | some c => k c s

def execCallAccept (call : Half) (s : State) : Out :=
  .next (gridMessageTaken 2 (forCall call (fun c t => settle (acceptAnswer c t))) s)

/-- R83: a CALL_REFUSE that passes the checks of R161 is counted once. -/
def refusalTaken (reason : Nat) (c : Call) (s : State) : State :=
  settle (refuseAnswer reason c (count (fun k => { k with refusals := k.refusals + 1 }) s))

def execCallRefuse (call : Half) (reason : Byte) (s : State) : Out :=
  .next (gridMessageTaken 3 (forCall call (fun c t =>
    if within reason.toNat 1 3 then refusalTaken reason.toNat c t else gridProtocol none none t)) s)

def execDispatched (call : Half) (s : State) : Out :=
  .next (gridMessageTaken 2 (forCall call (fun c t => settle (dispatchedAnswer c t))) s)

def execCallStatus (call : Half) (status : Byte) (s : State) : Out :=
  .next (gridMessageTaken 3 (forCall call (fun c t =>
    if within status.toNat 1 4 then settle (statusAnswer status.toNat c t) else gridProtocol none none t)) s)

/-! ## Arrivals (R93 to R97) -/

/-- R161: a message that names a port; a port not present is reported. -/
def forPort (port : Byte) (tag : Word) (k : Port → State → State) (s : State) : State :=
  match portOfByte port with
  | none => gridProtocol (some port) (some tag) s
  | some p => if s.st.portPresent p then k p s else gridProtocol (some port) (some tag) s

/-- An entry joins the tail of a lane. -/
def joinLane (p : Port) (e : Entry) (s : State) : State := setLane p (s.lane p ++ [e]) s

def stranger (tag : Word) : Entry := { tag := tag, card := none, kind := .stranger, state := .queued }

/-- R93: the call an arrival matches: one of the arrival port before one of another port, the one made first. -/
def State.arrivalCall (s : State) (p : Port) (tag : Word) : Option Call :=
  let calls := s.lnc.calls.filter (fun c => c.card.tag == tag)
  match calls.find? (fun c => c.port == p) with
  | some c => some c
  | none => calls.head?

/-- R94, R95: the call ends by arrival; its card passes to a new entry of the arrival port, and its exposure record follows or
starts. -/
def arriveCard (c : Call) (p : Port) (kind : EntryKind) (s : State) : State :=
  let card : CardCtx :=
    { c.card with
      timeArrived := some s.clock
      lateArrival := c.card.lateArrival || c.transitExpired
      adopted := c.card.adopted || kind == .adopted }
  let t := joinLane p { tag := c.card.tag, card := some card, kind := kind, state := .queued } (removeCall c.number s)
  let u := moveExposure card p t
  if c.dispatchSeen then u else startExposure card p u

/-- R96: a misroute: the card is finished CUT with flag MISROUTED, the tote is a STRANGER of the arrival port. The arrival
settles the call, so LATE_ARRIVAL is set as R34 and R86 say of any arrival. DEDUCED, log entry 32. -/
def misroute (c : Call) (p : Port) (s : State) : State :=
  let card : CardCtx :=
    { c.card.unpresented .cut .notPresented with
      misrouted := true
      lateArrival := c.card.lateArrival || c.transitExpired
      timeArrived := some s.clock }
  let t := returnCard card (removeCall c.number s)
  let u := report
    { kind := .misroute, bench := some card.bench, port := some (portByte p), card := some card.card,
      tag := some card.tag } t
  joinLane p (stranger card.tag) (countBench card.bench (fun k => { k with misroutes := k.misroutes + 1 }) u)

/-- R97: an unmatched arrival. -/
def unmatched (p : Port) (tag : Word) (s : State) : State := lookup tag (.arrival p) (joinLane p (stranger tag) s)

/-- R93 to R97, Table 6-2. -/
def arrivedAt (p : Port) (tag : Word) (s : State) : State :=
  if (s.lane p).any (fun e => e.tag == tag) then gridProtocol (some (portByte p)) (some tag) s
  else if s.st.laneDepth[p] ≤ (s.lane p).length then
    report { kind := .laneOverrun, bench := reportBench p, port := some (portByte p), tag := some tag } s
  else match s.arrivalCall p tag with
    | none => settle (unmatched p tag s)
    | some c =>
      if c.port = p then settle (arriveCard c p .called s)
      else if s.mayUse c.card c.port && s.mayUse c.card p then settle (arriveCard c p .adopted s)
      else settle (misroute c p s)

def execArrived (port : Byte) (tag : Word) (s : State) : Out :=
  .next (gridMessageTaken 6 (forPort port tag (fun p t => arrivedAt p tag t)) s)

/-! ## Docking and departure (R98, R110, R112) -/

/-- R98. -/
def dockedAt (p : Port) (tag : Word) (s : State) : State :=
  match s.head p with
  | some e =>
    if e.tag = tag then (if e.state = .queued then settle (dockHead p s) else s)
    else gridProtocol (some (portByte p)) (some tag) s
  | none => gridProtocol (some (portByte p)) (some tag) s

def execDocked (port : Byte) (tag : Word) (s : State) : Out :=
  .next (gridMessageTaken 6 (forPort port tag (fun p t => dockedAt p tag t)) s)

/-- R110: the head leaves its lane; its card, if any, goes back to the host. -/
def departHead (p : Port) (e : Entry) (s : State) : State :=
  let t := setLane p (s.lane p).tail s
  match e.card with
  | some c => returnCard c t
  | none => t

/-- R110, R112. -/
def departedAt (p : Port) (tag : Word) (s : State) : State :=
  match s.head p with
  | none => gridProtocol (some (portByte p)) (some tag) s
  | some e =>
    if e.tag ≠ tag then gridProtocol (some (portByte p)) (some tag) s
    else match e.state with
      | .releasing => settle (endTenure (.port p) (departHead p e s))
      | .ended => settle (gridProtocol (some (portByte p)) (some tag) (withdrawRequest p (departHead p e s)))
      | .stuck => settle (departHead p e s)
      | _ => gridProtocol (some (portByte p)) (some tag) s

def execDeparted (port : Byte) (tag : Word) (s : State) : Out :=
  .next (gridMessageTaken 6 (forPort port tag (fun p t => departedAt p tag t)) s)

/-! ## Recirculation and return holds (R141, R150) -/

def execRecircRequest (s : State) : Out :=
  .next (gridMessageTaken 0 (fun t => settle (setMga { t.mga with recircFlag := true } t)) s)

/-- R141. -/
def recircCleared (s : State) : State :=
  if s.mga.merge.holder = some .recirc then settle (endTenure .recirc s)
  else if s.mga.recircTimedOut then setMga { s.mga with recircTimedOut := false } s
  else if s.mga.recircFlag then settle (withdrawTarget .recirc (setMga { s.mga with recircFlag := false } s))
  else gridProtocol none none s

def execRecircClear (s : State) : Out := .next (gridMessageTaken 0 recircCleared s)

/-- R150: counted always; with return-hold reaction on the timer is loaded. -/
def returnHoldTaken (q : Half) (s : State) : State :=
  let t := count (fun c => { c with returnHolds := c.returnHolds + 1 }) s
  if s.live.holdReaction then settle (setMga { t.mga with holdTimer := q.toNat * Config.ticksPerDs } t) else t

def execReturnHold (q : Half) (s : State) : Out := .next (gridMessageTaken 2 (returnHoldTaken q) s)

end Sys2Proof.Machine
end

