-- ==== Sys2Proof/Machine/PanelFrames.lean ====
section
/-! DEFINITION. The meanings of the Bench Links' events and messages (chapter 11, with the rules of chapters 4, 6 and 7 that
take each message). -/

namespace Sys2Proof.Machine

/-! ## The link (R171, R172, R177) -/

/-- R177: 2 s without a good frame from the panel. -/
def execBenchLinkDown (bench : Bench) (s : State) : Out :=
  .next (if (s.bench bench).link.up then
      let c := s.bench bench
      let t := raise .benchLink
        (setBench bench { c with link := { c.link.clearQueue with up := false }, awaited := none } s)
      if c.staffing = .closed then t else settle (changeStaffing bench .closed 0 t)
    else s)

/-- R157, R171. -/
def execBenchIdleLineCheck (bench : Bench) (s : State) : Out :=
  .next (setBenchLink bench ((s.bench bench).link.idleExpiry .lineCheck) s)

/-- R172: the frame being sent ends. -/
def execBenchFrameSent (bench : Bench) (s : State) : Out :=
  .next (if (s.bench bench).link.sending.isSome then
      setBenchLink bench ((s.bench bench).link.frameSent .lineCheck) s
    else s)

/-- R158, R171: a dropped frame counted, the assembler hunting again. -/
def dropBenchFrame (b : Bench) (bytes : List Byte) (s : State) : State :=
  countBenchFrameError b (setBenchLink b ((s.bench b).link.droppedFrame bytes) s)

def execBenchFrameGapTimeout (bench : Bench) (bytes : List Byte) (s : State) : Out :=
  .next (if frameVerdict panelPayloadLength bytes = .incomplete ∧ (s.bench bench).link.stalls bytes then
      dropBenchFrame bench bytes s
    else s)

def execBenchFrameError (bench : Bench) (bytes : List Byte) (s : State) : Out :=
  .next (if frameVerdict panelPayloadLength bytes = .dropped ∧ (s.bench bench).link.collects bytes then
      dropBenchFrame bench bytes s
    else s)

/-- R171, R178: a good frame with a payload of this many bytes received: the silence timer restarts; a link that was DOWN
comes UP, which raises BENCH_LINK and hands PANEL_RESET. -/
def benchGood (b : Bench) (payload : Nat) (s : State) : State :=
  let t := setBenchLink b ((s.bench b).link.goodFrame payload) s
  if (s.bench b).link.up then t
  else panelReset b (raise .benchLink (setBenchLink b { (t.bench b).link with up := true } t))

/-- LINE_CHECK counts for the link state only (R173). -/
def execBenchLineCheck (bench : Bench) (s : State) : Out := .next (benchGood bench 0 s)

/-! ## Taking a panel message (R173) -/

/-- The payload length of each panel message (Table 11-1). -/
def PanelType.payload : PanelType → Nat
  | .signOn => 2
  | .place => 6
  | .remove => 1
  | .full => 1
  | .pick => 3
  | .short => 1
  | .toteDone => 1
  | _ => 0

/-- Table 11-4: staffing bars the message. -/
def Staffing.bars (f : Staffing) (ty : PanelType) : Bool :=
  match ty with
  | .place => f == .closed
  | .full => f == .closed
  | .pick => f != .staffed
  | .short => f != .staffed
  | .toteDone => f != .staffed
  | _ => false

/-- R173: the first test that refuses a message while none is awaited. -/
def State.panelRefusal (s : State) (b : Bench) (ty : PanelType) (inRange : Bool) : Option Reason :=
  if s.pau.runState = .faulted then some .busy
  else if !s.st.benchEnabled b then some .notEnabled
  else if !inRange then some .outOfRange
  else if (s.bench b).staffing.bars ty then some .notStaffed
  else none

/-- R173: the message takes the next ticket. -/
def nextTicket (b : Bench) (s : State) : State := setBench b { s.bench b with lastTicket := (s.bench b).lastTicket + 1 } s

/-- R173: a panel message other than LINE_CHECK. `port` and `p` are its fields, FFh for one it does not have; `k` is the block
that takes it once it is the awaited message. -/
def takePanel (b : Bench) (ty : PanelType) (port p : Byte) (inRange : Bool) (k : State → State) (s : State) : State :=
  let t := nextTicket b (benchGood b ty.payload s)
  let ticket := (t.bench b).lastTicket
  let m : Awaited := { ty := ty, port := port, p := p, ticket := ticket }
  let refuse (r : Reason) : State := benchHand b (.answer ticket ty port p r) t
  match (t.bench b).awaited with
  | some w =>
    if ty = .remove ∧ w.ty = .place ∧ w.p = p then k (setAwaited b (some m) (answer b .cancelled t))
    else refuse .busy
  | none =>
    match t.panelRefusal b ty inRange with
    | some r => refuse r
    | none => k (setAwaited b (some m) t)

/-- A field that a message does not have. -/
def noField : Byte := 0xFF

/-! ## Staffing messages (R175, R176) -/

/-- R175: a staffing message in a state that takes it changes the staffing and is answered ACCEPT after the change; in another
it is refused WRONG_STATE. -/
def staffingMessage (b : Bench) (takes : Bool) (new : Staffing) (picker : Half) (s : State) : State :=
  if takes then settle (answer b .accept (changeStaffing b new picker s)) else answer b .wrongState s

def execSignOn (bench : Bench) (picker : Half) (s : State) : Out :=
  .next (takePanel bench .signOn noField noField (picker != 0) (fun t =>
    staffingMessage bench ((t.bench bench).staffing == .closed) .staffed picker t) s)

def execSignOff (bench : Bench) (s : State) : Out :=
  .next (takePanel bench .signOff noField noField true (fun t =>
    staffingMessage bench ((t.bench bench).staffing != .closed) .closed 0 t) s)

def execBreak (bench : Bench) (s : State) : Out :=
  .next (takePanel bench .breakOff noField noField true (fun t =>
    staffingMessage bench ((t.bench bench).staffing == .staffed) .onBreak (t.bench bench).picker t) s)

def execBack (bench : Bench) (s : State) : Out :=
  .next (takePanel bench .back noField noField true (fun t =>
    staffingMessage bench ((t.bench bench).staffing == .onBreak) .staffed (t.bench bench).picker t) s)

/-! ## Put wall messages (R57, R61, R65 to R67) -/

/-- The put position a message of bench b names; the range test of R173 comes first. -/
def forPosition (b : Bench) (p : Byte) (k : PutPos → State → State) (s : State) : State :=
  match positionOfByte p with
  | some i => k (putPos b i) s
  | none => s

def positionInRange (p : Byte) : Bool := (positionOfByte p).isSome

/-- R57: a PLACE taken by a position. -/
def placeAt (b : Bench) (tag : Word) (q : PutPos) (s : State) : State :=
  let e := s.position q
  if !s.active then answer b .busy s
  else if e.state ≠ .empty then answer b .occupied s
  else if e.stale then answer b .busy s
  else
    settle (lookup tag (.place q) (setPosition q { Position.empty with state := .binding, step := .lookup, scanned := tag } s))

def execPlace (bench : Bench) (p : Byte) (tag : Word) (s : State) : Out :=
  .next (takePanel bench .place noField p (positionInRange p) (forPosition bench p (placeAt bench tag)) s)

def execRemove (bench : Bench) (p : Byte) (s : State) : Out :=
  .next (takePanel bench .remove noField p (positionInRange p)
    (forPosition bench p (fun q t => settle (answer bench .accept (removeAt q t)))) s)

/-- R65. -/
def fullAt (b : Bench) (q : PutPos) (s : State) : State :=
  match (s.position q).state with
  | .bound => settle (answer b .accept (stopAccepting q .full s))
  | .empty => answer b .unknownTote s
  | .binding => answer b .unknownTote s
  | _ => answer b .accept s

def execFull (bench : Bench) (p : Byte) (s : State) : Out :=
  .next (takePanel bench .full noField p (positionInRange p) (forPosition bench p (fullAt bench)) s)

/-! ## Picks (R101, R102) -/

/-- A line of the card stands at the position, unresolved. -/
def Line.openAt (q : PutPos) (l : Line) : Bool := l.unresolved && l.pos == some q

/-- R102: units moved from remaining to picked, never more than remain (R101 test 6); the line is COMPLETE when none
remain. -/
def Line.pick (qty : Nat) (l : Line) : Line :=
  let left := l.remaining - qty
  { l with
    picked := l.picked + min qty l.remaining
    remaining := left
    result := if left = 0 then some .complete else l.result
    lit := if left = 0 then false else l.lit }

/-- R101 test 2: the head's presentation ended and the line at the position was RECALLED. -/
def lateLine (e : Entry) (c : CardCtx) (q : PutPos) : Bool :=
  (e.state == .ended || e.state == .releasing)
  && c.lines.any (fun l => l.pos == some q && l.result == some .recalled)

/-- R102: the light, and the completed line reported, after the units. -/
def pickEffects (p : Port) (l : Line) (qty : Nat) (s : State) : State :=
  let t := reportUnits l.order qty s
  if (l.pick qty).unresolved then showLine p (l.pick qty) t
  else settleEntry p (reportLine l.order (unshowLine p l t))

/-- R102: an accepted pick. -/
def acceptPick (p : Port) (e : Entry) (c : CardCtx) (q : PutPos) (l : Line) (qty : Nat) (s : State) : State :=
  let lines := c.lines.map (fun x => if x.openAt q then x.pick qty else x)
  pickEffects p l qty (setHeadCard p e { c with lines := lines } e.state s)

/-- The port that a message names when bench b reaches it and it is present (R101, R103). -/
def State.reached (s : State) (b : Bench) (port : Byte) : Option Port :=
  match portOfByte port with
  | none => none
  | some p => if s.st.portPresent p && (reachedPorts b).contains p then some p else none

/-- R101 tests 4 to 6: a pick at a PRESENTING head. -/
def pickPresenting (b : Bench) (p : Port) (e : Entry) (c : CardCtx) (q : PutPos) (qty : Nat) (s : State) : State :=
  match c.lines.find? (Line.openAt q) with
  | none => answer b .wrongPut s
  | some l =>
    if l.remaining < qty then answer b .over s
    else settle (answer b .accept (acceptPick p e c q l qty s))

/-- R101 tests 2 and 3. -/
def pickAt (b : Bench) (port : Byte) (qty : Nat) (q : PutPos) (s : State) : State :=
  match (portOfByte port).bind s.headCard with
  | none => answer b .notPresenting s
  | some (e, c) =>
    if lateLine e c q then answer b .late s
    else match s.reached b port with
      | none => answer b .notPresenting s
      | some p =>
        if e.state = .presenting then pickPresenting b p e c q qty s else answer b .notPresenting s

def execPick (bench : Bench) (port p qty : Byte) (s : State) : Out :=
  .next (takePanel bench .pick port p (positionInRange p && qty != 0)
    (forPosition bench p (pickAt bench port qty.toNat)) s)

/-! ## SHORT and TOTE_DONE (R103, R104, R122) -/

/-- The head of a port that bench b reaches, while it is PRESENTING. -/
def State.presentingHead (s : State) (b : Bench) (port : Byte) : Option (Port × CardCtx) :=
  match s.reached b port with
  | none => none
  | some p => match s.headCard p with
    | none => none
    | some (e, c) => if e.state = .presenting then some (p, c) else none

/-- R103, R104: the unresolved lines of bench b at the head take one result; `told` reports them. -/
def endBenchLines (b : Bench) (lr : LineResult) (told : Port → CardCtx → Nat → State → State) (port : Byte) (s : State) :
    State :=
  match s.presentingHead b port with
  | none => answer b .notPresenting s
  | some (p, c) =>
    let n := (c.openLines.filter (Line.ofBench b)).length
    if n = 0 then answer b .accept s
    else
      settle (answer b .accept (settleEntry p (told p c n (resolveHead p (Line.ofBench b) lr s))))

/-- R103: SHORT_REPORTED, and the lines short of the bench. -/
def toldShort (b : Bench) (p : Port) (c : CardCtx) (n : Nat) (s : State) : State :=
  countBench b (fun k => { k with linesShort := k.linesShort + BitVec.ofNat 32 n })
    (report { kind := .shortReported, bench := some b, port := some (portByte p), card := some c.card, tag := some c.tag } s)

/-- R104: the lines cut of the bench. -/
def toldCut (b : Bench) (_p : Port) (_c : CardCtx) (n : Nat) (s : State) : State := linesCut b n s

def execShort (bench : Bench) (port : Byte) (s : State) : Out :=
  .next (takePanel bench .short port noField true (endBenchLines bench .short (toldShort bench) port) s)

def execToteDone (bench : Bench) (port : Byte) (s : State) : Out :=
  .next (takePanel bench .toteDone port noField true (endBenchLines bench .cutByPicker (toldCut bench) port) s)

end Sys2Proof.Machine
end

