-- ==== Sys2Proof/Machine/Reads.lean ====
section
/-! DEFINITION. The meanings of the ends of reads: data returned, a bus error, a timeout (R5, R6). A return names the read by
its number; one that no read in flight of the right kind answers to changes nothing. -/

namespace Sys2Proof.Machine

/-- R9, R189: the Settings Block returns: the stamp is recorded, the checks are made, STARTING ends in RUNNING or FAULTED. -/
def settingsReturned (data : List Byte) (s : State) : State :=
  let t := setPau { s.pau with stampTaken := some (stampOf data) } s
  let st := parseStructural data
  let l := parseLive (data.drop 0x80)
  let code := settingsError s.areaBase st l
  if code = 0 then startAccepted st l t else enterFaulted (setPau { t.pau with errorCode := code } t)

def execSettingsReadReturn (read : Nat) (data : List Byte) (s : State) : Out :=
  if data.length = 256 then
    .next (withRead read (fun p => match p with | .settings => some () | _ => none) (fun _ => settingsReturned data) s)
  else .fault .readDataLength

def execReadBusError (read : Nat) (s : State) : Out := .next (busError read s)

def execReadTimeout (read : Nat) (s : State) : Out := .next (busError read s)

/-- R11: the stamp: unchanged, stage 1 ends; changed, it is recorded and the live settings are read. -/
def stampReturned (stamp : Word) (s : State) : State :=
  if s.pau.stampTaken = some stamp then s
  else
    enterStage .liveSettings
      (issueRead .liveSettings (s.areaBase + 0x80) 128 (setPau { s.pau with stampTaken := some stamp } s))

def execStampReadReturn (read : Nat) (stamp : Word) (s : State) : Out :=
  .next (withRead read (fun p => match p with | .stamp => some () | _ => none)
    (fun _ t => advanceSweep (stampReturned stamp t)) s)

def execLiveSettingsReadReturn (read : Nat) (data : List Byte) (s : State) : Out :=
  if data.length = 128 then
    .next (withRead read (fun p => match p with | .liveSettings => some () | _ => none)
      (fun _ t => advanceSweep (settle (liveReturned (parseLive data) t))) s)
  else .fault .readDataLength

def execStarvedChainReadReturn (read : Nat) (value : Half) (s : State) : Out :=
  .next (withRead read (fun p => match p with | .starved b a c => some (b, a, c) | _ => none)
    (fun x t => advanceSweep (settle (starvedReturned x.1 x.2.1 x.2.2 value t))) s)

def execCardFlagsReadReturn (read : Nat) (flags : Byte) (s : State) : Out :=
  .next (withRead read (fun p => match p with | .cardFlags c q => some (c, q) | _ => none)
    (fun x t => advanceSweep (settle (cardFlagsReturned x.1 x.2 flags t))) s)

def execOrderFlagsReadReturn (read : Nat) (flags : Byte) (s : State) : Out :=
  .next (withRead read (fun p => match p with | .orderFlags q _ h => some (q, h) | _ => none)
    (fun x t => advanceSweep (settle (orderFlagsReturned x.1 x.2 flags t))) s)

def execLinkStepReadReturn (read : Nat) (value : Half) (s : State) : Out :=
  .next (withRead read (fun p => match p with | .linkStep b _ => some b | _ => none)
    (fun b t => settle (linkReturned b value t)) s)

def execCardReadReturn (read : Nat) (data : List Byte) (s : State) : Out :=
  if data.length = 64 then
    .next (withRead read (fun p => match p with | .cardStep b c => some (b, c) | _ => none)
      (fun x t => settle (cardReturned x.1 x.2 data t)) s)
  else .fault .readDataLength

/-- R28: the data goes to the read that the TTU counts as in flight. -/
def tagReturned (entry : Word) (s : State) : State :=
  match s.ttu.inFlight with
  | some m => translationReturned m entry s
  | none => s

def execTagTableReadReturn (read : Nat) (entry : Word) (s : State) : Out :=
  .next (withRead read (fun p => match p with | .tagEntry _ => some () | _ => none)
    (fun _ t => settle (tagReturned entry t)) s)

def execOrderRecordReadReturn (read : Nat) (data : List Byte) (s : State) : Out :=
  if data.length = 32 then
    .next (withRead read (fun p => match p with | .orderRecord q j => some (q, j) | _ => none)
      (fun x t => settle (orderRecordReturned x.1 x.2 data t)) s)
  else .fault .readDataLength

end Sys2Proof.Machine
end

