-- ==== Sys2Proof/Machine/Registers.lean ====
section
/-! DEFINITION. The meanings of register writes and resets (R1, R3, R4, R181 to R184, R188, R193). -/

namespace Sys2Proof.Machine

/-- R188, R193: a CONTROL write that R1 accepts. With CLEAR 1 it is a Clear; else RUN and NOTICE_ENABLE are loaded, each
signal condition is found afresh (R183, R184), and RUN acts by the run state. -/
def controlWrite (value : Word) (s : State) : State :=
  if value.getLsbD 1 then clearAll s
  else
    let run := value.getLsbD 0
    let t := findSignals s.live.suppressPrior (setPau { s.pau with run := run, noticeEnable := value.getLsbD 2 } s)
    match s.pau.runState with
    | .stopped => if run && !s.pau.run then beginStarting t else t
    | .starting => setPau { t.pau with drainDue := !run } t
    | .running => if s.pau.run && !run then settle (enterDraining t) else t
    | _ => t

/-- RUN: a CONTROL write. -/
def execRun (value : Word) (s : State) : Out := .next (controlWrite value s)

/-- CLEAR: a CONTROL write. -/
def execClear (value : Word) (s : State) : Out := .next (controlWrite value s)

/-- NOTICE_ENABLE: a CONTROL write. -/
def execNoticeEnable (value : Word) (s : State) : Out := .next (controlWrite value s)

/-- R3: bits 11:0 of AREA_LO read 0; loaded in STOPPED only. -/
def execAreaLo (value : Word) (s : State) : Out :=
  .next (if s.pau.runState = .stopped then setPau { s.pau with areaLo := value &&& 0xFFFFF000 } s else s)

/-- R3. -/
def execAreaHi (value : Word) (s : State) : Out :=
  .next (if s.pau.runState = .stopped then setPau { s.pau with areaHi := value } s else s)

/-- R4, R13. -/
def execEdition (value : Word) (s : State) : Out :=
  let t := setPau { s.pau with writtenEdition := value } s
  .next (if s.active then
      match s.pau.sweep with
      | none => beginEditionSweep value t
      | some _ => setPau { t.pau with editionDue := true } t
    else t)

/-- R181, R183: each bit written as 1 is cleared. -/
def execEvents (value : Word) (s : State) : Out :=
  .next (findSignals false { s with ntu := { s.ntu with events := s.ntu.events &&& ~~~(value.truncate 11) } })

/-- R182 to R184. -/
def execEventMask (value : Word) (s : State) : Out :=
  .next (findSignals s.live.suppressPrior { s with ntu := { s.ntu with mask := value.truncate 11 } })

/-- R1: the write is discarded. -/
def execRegisterWriteDiscarded (_offset : BitVec 12) (_enables : BitVec 4) (_value : Word) (s : State) : Out := .next s

/-- R193. -/
def execPowerOnReset (s : State) : Out := .next (resetAll .powerOn s)

/-- R193. -/
def execBusReset (s : State) : Out := .next (resetAll .busReset s)

end Sys2Proof.Machine
end

