-- ==== Sys2Proof/Machine/Timers.lean ====
section
/-! DEFINITION. The meanings of time: the floor clock (R190), what a second may bring (R69, R76, R131, R132), and the end of
every timer. An expiry of a timer that does not run changes nothing (log entry 3). -/

namespace Sys2Proof.Machine

/-! ## The timed-sweep timer (R14) -/

def execTimedSweepTimerExpiry (s : State) : Out :=
  .next (if s.active && s.pau.sweepTimer.isSome then
      let t := setPau { s.pau with sweepTimer := s.live.sweepReload } s
      match s.pau.sweep with
      | none => stage3 (setSweep (some { kind := .timed, stage := .starved }) t)
      | some _ => t
    else s)

/-! ## The floor clock -/

/-- R190: the floor-second timers of calls and of the merge count one second. -/
def countTimers (s : State) : State :=
  { s with
    lnc := { s.lnc with calls := s.lnc.calls.map (fun c => { c with transit := c.transit.map (fun n => n - 1) }) }
    mga := { s.mga with merge := match s.mga.merge with
      | .tenure r left => .tenure r (left.map (fun n => n - 1))
      | m => m } }

/-- R130, R190: the floor clock advances by one and every running exposure record counts its second. -/
def secondPasses (s : State) : State :=
  let t := countTimers (setPau { s.pau with floorClock := s.pau.floorClock + 1 } s)
  { t with exposures := t.exposures.map (Exposure.second t.live) }

/-- The staged card of an index. -/
def State.stagedCard (s : State) (card : Nat) : Option CardCtx :=
  (allBenches.flatMap (fun b => s.staged b)).find? (fun c => c.card == card)

/-- The exposure record of a card index. -/
def State.recordOf (s : State) (card : Nat) : Option Exposure := s.exposures.find? (fun r => r.card == card)

/-- The event is due at this second. -/
def State.timedDue (s : State) (e : TimedEvent) : Bool :=
  s.active && match e with
    | .deadline q => s.lateDue q
    | .warning card => match s.recordOf card with | some r => r.warnDue | none => false
    | .recall card => match s.recordOf card with | some r => r.recallDue | none => false
    | .readyWait card => match s.stagedCard card with | some c => s.waitPassed c | none => false

/-- R76: a look at a staged card whose wait has passed: with no line ACCEPTING it is finished ORDER_ABSENT. -/
def lookAtWait (c : CardCtx) (s : State) : State :=
  if s.someAccepting c then s else finishStaged .orderAbsent .orderAbsent c s

/-- The event taken, when it is due. A recall found while the record's warning is due too acts on the warning first (R132). -/
def takeTimed (e : TimedEvent) (s : State) : State :=
  if s.timedDue e then
    match e with
    | .deadline q => findLate q s
    | .warning card => match s.recordOf card with | some r => warnRecord r.card r.seq s | none => s
    | .recall card => match s.recordOf card with | some r => compareRecord r.card r.seq s | none => s
    | .readyWait card => match s.stagedCard card with | some c => lookAtWait c s | none => s
  else s

/-- The events that one second may bring, in the order in which FLOOR_CLOCK_ADVANCE takes them: deadlines by position, each
record's warning and then its recall, the staged cards' waits. -/
def State.secondEvents (s : State) : List TimedEvent :=
  allPositions.map TimedEvent.deadline
  ++ s.exposures.flatMap (fun r => [TimedEvent.warning r.card, TimedEvent.recall r.card])
  ++ (allBenches.flatMap (fun b => s.staged b)).map (fun c => TimedEvent.readyWait c.card)

/-- R190: one second of the floor clock, in RUNNING and DRAINING. The events listed in `apart` come as rows of their own. -/
def execFloorClockAdvance (apart : List TimedEvent) (s : State) : Out :=
  .next (if s.active then
      let t := secondPasses s
      settle ((t.secondEvents.filter (fun e => !apart.contains e)).foldl (fun u e => takeTimed e u) t)
    else s)

/-- An event of a second as a row of its own: taken when it is due. -/
def timedEvent (e : TimedEvent) (s : State) : State := if s.timedDue e then settle (takeTimed e s) else s

def execDeadlinePassed (pos : PutPos) (s : State) : Out := .next (timedEvent (.deadline pos) s)
def execExposureWarning (card : Nat) (s : State) : Out := .next (timedEvent (.warning card) s)
def execExposureRecall (card : Nat) (s : State) : Out := .next (timedEvent (.recall card) s)
def execReadyWaitPasses (card : Nat) (s : State) : Out := .next (timedEvent (.readyWait card) s)

/-! ## Call timers (R83, R86, R87, R89) -/

/-- A timer of an outstanding call ends, in RUNNING or DRAINING (R91). -/
def callTimer (n : Nat) (runs : Call → Bool) (k : Call → State → State) (s : State) : State :=
  match s.findCall n with
  | none => s
  | some c => if s.active && runs c then settle (k c s) else s

def Call.answerRuns (c : Call) : Bool :=
  match c.timer with
  | .answer _ => c.state == .called
  | _ => false

def Call.gapRuns (c : Call) : Bool :=
  match c.timer with
  | .gap _ => c.state == .called
  | _ => false

def Call.inquiryRuns (c : Call) : Bool :=
  match c.timer with
  | .inquiry _ => c.state == .inquiring || c.state == .cancelling
  | _ => false

/-- R83: CALL goes out again under the same number. -/
def resendCall (c : Call) (s : State) : State :=
  let c' : Call := { c with card := { c.card with callAttempts := held16 (c.card.callAttempts + 1) }, timer := answerTimer }
  count (fun k => { k with retries := k.retries + 1 }) (gridHand (.call c.number c.port c.card.tag) (putCall c' s))

def execAnswerTimerExpiry (call : Nat) (s : State) : Out := .next (callTimer call Call.answerRuns busyRefusal s)
def execRetryGapExpiry (call : Nat) (s : State) : Out := .next (callTimer call Call.gapRuns resendCall s)
def execInquiryTimerExpiry (call : Nat) (s : State) : Out := .next (callTimer call Call.inquiryRuns inquiryExpiry s)
def execTransitTimeout (call : Nat) (s : State) : Out :=
  .next (callTimer call (fun c => c.transit.isSome) transitExpiry s)

/-! ## Merge timers (R146, R149, R150) -/

/-- R111, R149: the holder of a tenure that has timed out: a RELEASING head becomes STUCK and its card is written with flag
STUCK; for the recirculation stream the timed-out mark is set. -/
def timedOutHolder (r : Requester) (s : State) : State :=
  match r with
  | .recirc => report { kind := .tenureTimeout } (setMga { s.mga with recircTimedOut := true } s)
  | .port p =>
    match s.head p with
    | none => s
    | some e =>
      let t := setHead p { e with card := none, state := .stuck } s
      let u := match e.card with | some c => returnCard { c with stuck := true } t | none => t
      report { kind := .tenureTimeout, bench := reportBench p, port := some (portByte p), card := e.card.map (fun c => c.card),
               tag := some e.tag } u

def execTenureTimeout (s : State) : Out :=
  .next (match s.mga.merge with
    | .tenure r (some _) =>
      if s.active then
        settle (count (fun c => { c with tenureTimeouts := c.tenureTimeouts + 1 }) (timedOutHolder r (openMerge r s)))
      else s
    | _ => s)

/-- R146: the gate stands at the target. -/
def execGateSwingEnd (s : State) : Out :=
  .next (match s.mga.merge with
    | .swinging r _ gone =>
      if s.active then
        settle (if gone then openMerge r s else setMga { s.mga with merge := .swung r } s)
      else s
    | _ => s)

/-- R150: the hold ends; a choice or the grant of a SWUNG merge follows. -/
def execReturnHoldEnd (s : State) : Out :=
  .next (if s.active && s.mga.holdTimer != 0 then settle (setMga { s.mga with holdTimer := 0 } s) else s)

/-! ## Dispatch-hold timers (R165) -/

def execDispatchHoldRefresh (port : Port) (s : State) : Out :=
  .next (if s.active && s.glc.link.up && (s.hold port).refresh.isSome && (s.hold port).wants then sendHold port s else s)

def execHoldExpiry (port : Port) (s : State) : Out :=
  .next (if s.active && (s.hold port).expiry.isSome && !(s.hold port).wants then
      setHold port { s.hold port with holding := false, refresh := none, expiry := none } s
    else s)

end Sys2Proof.Machine
end

