-- ==== Sys2Proof/Machine/Dispatch.lean ====
section
/-! DEFINITION. The effect of each command: one arm per row of the opcode table. -/

namespace Sys2Proof.Machine

def exec (i : Instr) (s : State) : Host.Outcome State Fault Refusal :=
  match i with
  | .run value => Sys2Proof.Machine.execRun value s
  | .clear value => Sys2Proof.Machine.execClear value s
  | .noticeEnable value => Sys2Proof.Machine.execNoticeEnable value s
  | .areaLo value => Sys2Proof.Machine.execAreaLo value s
  | .areaHi value => Sys2Proof.Machine.execAreaHi value s
  | .edition value => Sys2Proof.Machine.execEdition value s
  | .events value => Sys2Proof.Machine.execEvents value s
  | .eventMask value => Sys2Proof.Machine.execEventMask value s
  | .registerWriteDiscarded offset enables value => Sys2Proof.Machine.execRegisterWriteDiscarded offset enables value s
  | .powerOnReset => Sys2Proof.Machine.execPowerOnReset s
  | .busReset => Sys2Proof.Machine.execBusReset s
  | .settingsReadReturn read data => Sys2Proof.Machine.execSettingsReadReturn read data s
  | .readBusError read => Sys2Proof.Machine.execReadBusError read s
  | .readTimeout read => Sys2Proof.Machine.execReadTimeout read s
  | .stampReadReturn read stamp => Sys2Proof.Machine.execStampReadReturn read stamp s
  | .liveSettingsReadReturn read data => Sys2Proof.Machine.execLiveSettingsReadReturn read data s
  | .starvedChainReadReturn read value => Sys2Proof.Machine.execStarvedChainReadReturn read value s
  | .cardFlagsReadReturn read flags => Sys2Proof.Machine.execCardFlagsReadReturn read flags s
  | .orderFlagsReadReturn read flags => Sys2Proof.Machine.execOrderFlagsReadReturn read flags s
  | .linkStepReadReturn read value => Sys2Proof.Machine.execLinkStepReadReturn read value s
  | .cardReadReturn read data => Sys2Proof.Machine.execCardReadReturn read data s
  | .tagTableReadReturn read entry => Sys2Proof.Machine.execTagTableReadReturn read entry s
  | .orderRecordReadReturn read data => Sys2Proof.Machine.execOrderRecordReadReturn read data s
  | .timedSweepTimerExpiry => Sys2Proof.Machine.execTimedSweepTimerExpiry s
  | .floorClockAdvance apart => Sys2Proof.Machine.execFloorClockAdvance apart s
  | .deadlinePassed pos => Sys2Proof.Machine.execDeadlinePassed pos s
  | .exposureWarning card => Sys2Proof.Machine.execExposureWarning card s
  | .exposureRecall card => Sys2Proof.Machine.execExposureRecall card s
  | .readyWaitPasses card => Sys2Proof.Machine.execReadyWaitPasses card s
  | .answerTimerExpiry call => Sys2Proof.Machine.execAnswerTimerExpiry call s
  | .retryGapExpiry call => Sys2Proof.Machine.execRetryGapExpiry call s
  | .inquiryTimerExpiry call => Sys2Proof.Machine.execInquiryTimerExpiry call s
  | .transitTimeout call => Sys2Proof.Machine.execTransitTimeout call s
  | .tenureTimeout => Sys2Proof.Machine.execTenureTimeout s
  | .gateSwingEnd => Sys2Proof.Machine.execGateSwingEnd s
  | .returnHoldEnd => Sys2Proof.Machine.execReturnHoldEnd s
  | .dispatchHoldRefresh port => Sys2Proof.Machine.execDispatchHoldRefresh port s
  | .holdExpiry port => Sys2Proof.Machine.execHoldExpiry port s
  | .gridLinkDown => Sys2Proof.Machine.execGridLinkDown s
  | .gridIdleLineCheck => Sys2Proof.Machine.execGridIdleLineCheck s
  | .gridFrameSent => Sys2Proof.Machine.execGridFrameSent s
  | .gridFrameGapTimeout bytes => Sys2Proof.Machine.execGridFrameGapTimeout bytes s
  | .gridFrameError bytes => Sys2Proof.Machine.execGridFrameError bytes s
  | .gridLineCheck => Sys2Proof.Machine.execGridLineCheck s
  | .callAccept call => Sys2Proof.Machine.execCallAccept call s
  | .callRefuse call reason => Sys2Proof.Machine.execCallRefuse call reason s
  | .dispatched call => Sys2Proof.Machine.execDispatched call s
  | .callStatus call status => Sys2Proof.Machine.execCallStatus call status s
  | .arrived port tag => Sys2Proof.Machine.execArrived port tag s
  | .docked port tag => Sys2Proof.Machine.execDocked port tag s
  | .departed port tag => Sys2Proof.Machine.execDeparted port tag s
  | .recircRequest => Sys2Proof.Machine.execRecircRequest s
  | .recircClear => Sys2Proof.Machine.execRecircClear s
  | .returnHold q => Sys2Proof.Machine.execReturnHold q s
  | .benchLinkDown bench => Sys2Proof.Machine.execBenchLinkDown bench s
  | .benchIdleLineCheck bench => Sys2Proof.Machine.execBenchIdleLineCheck bench s
  | .benchFrameSent bench => Sys2Proof.Machine.execBenchFrameSent bench s
  | .benchFrameGapTimeout bench bytes => Sys2Proof.Machine.execBenchFrameGapTimeout bench bytes s
  | .benchFrameError bench bytes => Sys2Proof.Machine.execBenchFrameError bench bytes s
  | .benchLineCheck bench => Sys2Proof.Machine.execBenchLineCheck bench s
  | .signOn bench picker => Sys2Proof.Machine.execSignOn bench picker s
  | .signOff bench => Sys2Proof.Machine.execSignOff bench s
  | .breakOff bench => Sys2Proof.Machine.execBreak bench s
  | .back bench => Sys2Proof.Machine.execBack bench s
  | .place bench p tag => Sys2Proof.Machine.execPlace bench p tag s
  | .remove bench p => Sys2Proof.Machine.execRemove bench p s
  | .full bench p => Sys2Proof.Machine.execFull bench p s
  | .pick bench port p qty => Sys2Proof.Machine.execPick bench port p qty s
  | .short bench port => Sys2Proof.Machine.execShort bench port s
  | .toteDone bench port => Sys2Proof.Machine.execToteDone bench port s

end Sys2Proof.Machine
end

