-- ==== Sys2Proof/Machine/Step.lean ====
section
/-! DEFINITION. The step: the command at the front of the queue, or, on an empty queue, 50 ms of idle time. -/

namespace Sys2Proof.Machine

/-- One unit off a timer, whose last unit is left to the command of its expiry. -/
def countDown (n : Nat) : Nat := if n ≤ 1 then n else n - 1

def CallTimer.tick : CallTimer → CallTimer
  | .none => .none
  | .answer n => .answer (countDown n)
  | .gap n => .gap (countDown n)
  | .inquiry n => .inquiry (countDown n)

def Merge.tick : Merge → Merge
  | .swinging r n w => .swinging r (countDown n) w
  | m => m

/-- The silence and idle timers count in every run state and both link states (R155, R170), up to the last unit before their
limits. -/
def Link.tick {M : Type} (l : Link M) : Link M :=
  { l with silence := min (l.silence + 1) (Config.ticksTwoSeconds - 1), idle := min (l.idle + 1) (Config.ticksIdle - 1) }

def PortHold.tick (h : PortHold) : PortHold :=
  { h with refresh := h.refresh.map countDown, expiry := h.expiry.map countDown }

/-- The timers below the second that run in RUNNING and DRAINING. -/
def tickTimers (s : State) : State :=
  { s with
    pau := { s.pau with sweepTimer := s.pau.sweepTimer.map countDown }
    lnc := { s.lnc with calls := s.lnc.calls.map (fun c => { c with timer := c.timer.tick }) }
    mga := { s.mga with merge := s.mga.merge.tick, holdTimer := countDown s.mga.holdTimer }
    glc := { s.glc with holds := s.glc.holds.map PortHold.tick } }

/-- The link timers, which run in every run state. -/
def tickLinks (s : State) : State :=
  { s with
    glc := { s.glc with link := s.glc.link.tick }
    blc := s.blc.map (fun c => { c with link := c.link.tick }) }

/-- 50 ms in which nothing else happens (log entries 1 to 3). -/
def tick (s : State) : State := tickLinks (if s.active then tickTimers s else s)

/-- One step of the part. -/
def step (s : State) : Out :=
  match s.pending with
  | [] => .next (tick s)
  | c :: rest => exec c { s with pending := rest }

/-- The state with the command that a table word spells at the front of its queue; no row of this part's table has a word
(log entry 28). -/
def State.withFetchWord (s : State) (nbits w : Nat) : State :=
  match decodeTableWord nbits w with
  | some c => { s with pending := c :: s.pending }
  | none => s

end Sys2Proof.Machine
end

