-- ==== Sys2Proof/Safety.lean ====
section
/-! DEFINITION. What a state is held to: the invariants of the part, and the words in which the statements speak of reads. -/

namespace Sys2Proof.Machine

/-! ## Reads -/

/-- The read of this number is in flight, was asked for `p`, and has not been given up (R5, R6). -/
def State.reading (s : State) (id : Nat) (p : ReadFor) : Prop :=
  ∃ r, s.findRead id = some r ∧ r.purpose = p ∧ r.discarded = false

/-- The command is the end of a read of this purpose: each return is of its own kind, and a bus error or a timeout ends any read
(R5, R6). -/
def answersRead (c : Instr) (p : ReadFor) : Bool :=
  match c, p with
  | .readBusError _, _ => true
  | .readTimeout _, _ => true
  | .settingsReadReturn _ _, .settings => true
  | .stampReadReturn _ _, .stamp => true
  | .liveSettingsReadReturn _ _, .liveSettings => true
  | .starvedChainReadReturn _ _, .starved _ _ _ => true
  | .cardFlagsReadReturn _ _, .cardFlags _ _ => true
  | .orderFlagsReadReturn _ _, .orderFlags _ _ _ => true
  | .linkStepReadReturn _ _, .linkStep _ _ => true
  | .cardReadReturn _ _, .cardStep _ _ => true
  | .tagTableReadReturn _ _, .tagEntry _ => true
  | .orderRecordReadReturn _ _, .orderRecord _ _ => true
  | _, _ => false

/-! ## Grid messages -/

/-- The payload length of a message received from the Grid Link (Table 10-2). -/
def gridPayload (c : Instr) : Nat :=
  match c with
  | .callAccept _ => 2
  | .callRefuse _ _ => 3
  | .dispatched _ => 2
  | .callStatus _ _ => 3
  | .arrived _ _ => 6
  | .docked _ _ => 6
  | .departed _ _ => 6
  | .returnHold _ => 2
  | _ => 0

/-! ## Notices -/

/-- The vectors whose signal condition is found to become true (R183). -/
def State.newSignals (s : State) : List (Fin 4) :=
  ([0, 1, 2, 3] : List (Fin 4)).filter (fun v => s.signalCondition v && !s.ntu.signals[v])

/-- R182 to R184: the notice writes that finding every condition afresh sends, in vector order. -/
def State.noticesFor (quiet : Bool) (s : State) : List HostWrite :=
  if quiet || s.pau.live.isNone then []
  else s.newSignals.map (fun v => { addr := s.live.noticeAddr, data := natToBytes 4 (noticeDatum s.live v) })

/-- The conditions found and recorded, their notices sent (R183). -/
def State.signalsFound (quiet : Bool) (s : State) : State :=
  { s with
    ntu := { s.ntu with signals := Vector.ofFn (fun v => s.signalCondition v) }
    bus := { s.bus with posted := s.bus.posted ++ s.noticesFor quiet } }

/-! ## Panel messages -/

/-- What a panel message other than LINE_CHECK carries: its bench, its type, its port and position fields (FFh for none), and
whether its fields are in range (R173). -/
structure PanelFields where
  bench : Bench
  ty : PanelType
  port : Byte
  p : Byte
  inRange : Bool
deriving DecidableEq, Repr

def panelFields : Instr → Option PanelFields
  | .signOn b picker => some { bench := b, ty := .signOn, port := 0xFF, p := 0xFF, inRange := picker != 0 }
  | .signOff b => some { bench := b, ty := .signOff, port := 0xFF, p := 0xFF, inRange := true }
  | .breakOff b => some { bench := b, ty := .breakOff, port := 0xFF, p := 0xFF, inRange := true }
  | .back b => some { bench := b, ty := .back, port := 0xFF, p := 0xFF, inRange := true }
  | .place b p _ => some { bench := b, ty := .place, port := 0xFF, p := p, inRange := decide (p.toNat < 16) }
  | .remove b p => some { bench := b, ty := .remove, port := 0xFF, p := p, inRange := decide (p.toNat < 16) }
  | .full b p => some { bench := b, ty := .full, port := 0xFF, p := p, inRange := decide (p.toNat < 16) }
  | .pick b port p qty =>
    some { bench := b, ty := .pick, port := port, p := p, inRange := decide (p.toNat < 16) && qty != 0 }
  | .short b port => some { bench := b, ty := .short, port := port, p := 0xFF, inRange := true }
  | .toteDone b port => some { bench := b, ty := .toteDone, port := port, p := 0xFF, inRange := true }
  | _ => none

/-- The bench's link has taken the message's frame, and the message has its ticket (R171, R173). -/
def ticketed (b : Bench) (ty : PanelType) (s : State) : State := nextTicket b (benchGood b ty.payload s)

/-- The message passes every test of R173 while none is awaited, and is the awaited message. -/
def State.panelTaken (s : State) (m : PanelFields) : Prop :=
  ((ticketed m.bench m.ty s).bench m.bench).awaited = none
  ∧ (ticketed m.bench m.ty s).panelRefusal m.bench m.ty m.inRange = none

/-- The state in which the block that takes the message finds it (R173). -/
def panelState (m : PanelFields) (s : State) : State :=
  let t := ticketed m.bench m.ty s
  setAwaited m.bench (some { ty := m.ty, port := m.port, p := m.p, ticket := (t.bench m.bench).lastTicket }) t

/-! ## Capacities -/

/-- R3: bits 11:0 of AREA_LO read 0. -/
def State.areaAligned (s : State) : Prop := s.pau.areaLo &&& 0xFFF = 0

/-- R23, R25: 16 cache entries and 8 lookups in the miss list at most. -/
def State.lookupsBounded (s : State) : Prop :=
  s.ttu.cache.length ≤ Config.cacheEntries ∧ s.ttu.misses.length ≤ Config.missEntries

/-- R156, R172: 128 messages wait for the Grid Link at most, and 64 for each Bench Link. -/
def State.queuesBounded (s : State) : Prop :=
  s.glc.link.queue.length ≤ Config.gridQueue ∧ ∀ b : Bench, (s.bench b).link.queue.length ≤ Config.benchQueue

/-- The capacities the part never passes. R144: the port-grant count is held at 255. -/
def State.bounded (s : State) : Prop :=
  s.areaAligned ∧ s.lookupsBounded ∧ s.queuesBounded ∧ s.mga.portCount ≤ 255

/-! ## The put wall -/

/-- R55: an order index stands at no more than one position, held or claimed, and an EMPTY position has none. -/
def State.ordersApart (s : State) : Prop :=
  (∀ (q r : PutPos) (j : Nat), (s.position q).order = some j → (s.position r).order = some j → q = r)
  ∧ ∀ q : PutPos, (s.position q).state = .empty → (s.position q).order = none

/-! ## Held cards -/

/-- R52: picked, remaining and shortfall of a line add to its quantity; a line with a result has nothing remaining. -/
def Line.accounted (l : Line) : Prop :=
  l.picked + l.remaining + l.shortfall = l.qty ∧ (l.result.isSome = true → l.remaining = 0)

def CardCtx.accounted (c : CardCtx) : Prop := ∀ l ∈ c.lines, l.accounted

/-- R52, over every held card. -/
def State.unitsAccounted (s : State) : Prop := ∀ c ∈ s.held, c.accounted

end Sys2Proof.Machine
end

