-- ==== Sys2Proof/WellFormed.lean ====
section
/-! DEFINITION. Which commands can occur: operands of the width and shape that the row's rule gives. -/

namespace Sys2Proof

/-- The registers a full write reaches: CONTROL, AREA_LO, AREA_HI, EDITION, EVENTS, EVENT_MASK (Table 1-1). -/
def writableOffset (offset : BitVec 12) : Bool :=
  [0x004, 0x00C, 0x010, 0x014, 0x018, 0x01C].contains offset.toNat

/-- A register write that R1 discards: a write to IDENT, STATUS or an unassigned offset, or one with fewer than four byte
enables. -/
def discardedWrite (offset : BitVec 12) (enables : BitVec 4) : Bool :=
  !(writableOffset offset && enables == 0xF)

/-- The command is one that can occur at the part's interfaces. -/
def Instr.wellFormed : Instr → Bool
  | .run v => !v.getLsbD 1
  | .clear v => v.getLsbD 1
  | .noticeEnable v => !v.getLsbD 1
  | .registerWriteDiscarded off en _ => discardedWrite off en
  | .settingsReadReturn _ data => data.length == 256
  | .liveSettingsReadReturn _ data => data.length == 128
  | .cardReadReturn _ data => data.length == 64
  | .orderRecordReadReturn _ data => data.length == 32
  | .gridFrameGapTimeout bytes => frameVerdict gridPayloadLength bytes == .incomplete
  | .gridFrameError bytes => frameVerdict gridPayloadLength bytes == .dropped
  | .benchFrameGapTimeout _ bytes => frameVerdict panelPayloadLength bytes == .incomplete
  | .benchFrameError _ bytes => frameVerdict panelPayloadLength bytes == .dropped
  | _ => true

end Sys2Proof
end

