-- ==== Sys2Proof/Certificates/Slice0/Obligations.lean ====
section
/-! DEFINITION. The statements for the provers. -/

open Sys2Proof Sys2Proof.Machine

/-- A step of a state with a command at the front of its queue is exec of that command with the queue's rest. From
95_what_each_step_holds.md; 00_scope.md. -/
def Obligations.StepRunsTheFrontCommand : Prop :=
  ∀ (c : Instr) (rest : List Instr) (s : State),
    step { s with pending := c :: rest } = exec c { s with pending := rest }

/-- An idle step (the model's 50 ms) moves timers only, and outside RUNNING and DRAINING only the link timers. From
13_run_drain_and_clear.md R190; 10_the_grid_link.md R155.
The model's choices in it: log entries 1 to 3. -/
def Obligations.IdleStepMovesTimersOnly : Prop :=
  ∀ s : State, s.pending = [] → ∃ t, step s = .next t
    ∧ t = { s with
        pau := { s.pau with sweepTimer := t.pau.sweepTimer }
        lnc := { s.lnc with calls := t.lnc.calls }
        mga := { s.mga with merge := t.mga.merge, holdTimer := t.mga.holdTimer }
        glc := t.glc
        blc := t.blc }
    ∧ t.lnc.calls.map (fun c => { c with timer := .none }) = s.lnc.calls.map (fun c => { c with timer := .none })
    ∧ (∀ r left w, s.mga.merge = .swinging r left w → ∃ left', t.mga.merge = .swinging r left' w)
    ∧ ((∀ r left w, s.mga.merge ≠ .swinging r left w) → t.mga.merge = s.mga.merge)
    ∧ t.glc.link = { s.glc.link with silence := t.glc.link.silence, idle := t.glc.link.idle }
    ∧ (∀ p : Port, t.hold p = { s.hold p with refresh := (t.hold p).refresh, expiry := (t.hold p).expiry })
    ∧ (∀ b : Bench, t.bench b = { s.bench b with
        link := { (s.bench b).link with silence := (t.bench b).link.silence, idle := (t.bench b).link.idle } })
    ∧ (s.active = false → t.pau = s.pau ∧ t.lnc = s.lnc ∧ t.mga = s.mga ∧ t.glc.holds = s.glc.holds)

/-- Power-on and bus reset leave every register at its value of Table 1-1 and every block empty, and write nothing. From
01_the_plan_area.md Table 1-1, R1, R2; 13_run_drain_and_clear.md R193.
The model's choices in it: log entries 10, 15 and 33. -/
def Obligations.ResetsLeaveTableOneOne : Prop :=
  windowRead State.reset 0x00 4 = [0x01, 0x00, 0x42, 0x4D]
  ∧ (∀ off ∈ [0x04, 0x08, 0x0C, 0x10, 0x14, 0x18, 0x1C], windowRead State.reset off 4 = [0, 0, 0, 0])
  ∧ ∀ s : State, ∃ t u, exec .powerOnReset s = .next t ∧ exec .busReset s = .next u
    ∧ t = { State.reset with bus := t.bus, freeCount := s.freeCount, pending := s.pending }
    ∧ u = { t with pau := { t.pau with resetCause := .busReset } }
    ∧ t.bus.posted = s.bus.posted ∧ t.bus.nextRead = s.bus.nextRead ∧ (∀ r ∈ t.bus.reads, r.discarded = true)
    ∧ registerValue t 2 = 0x00000000 ∧ registerValue u 2 = 0x00000010

/-- AREA_LO and AREA_HI load in STOPPED, are discarded in any other run state, and give the base of the accesses. R3. -/
def Obligations.AreaRegistersLoadInStoppedOnly : Prop :=
  ∀ (s : State) (w : Word),
    (s.pau.runState = .stopped →
      exec (.areaLo w) s = .next { s with pau := { s.pau with areaLo := w &&& 0xFFFFF000 } }
      ∧ exec (.areaHi w) s = .next { s with pau := { s.pau with areaHi := w } })
    ∧ (s.pau.runState ≠ .stopped → exec (.areaLo w) s = .next s ∧ exec (.areaHi w) s = .next s)
    ∧ (w &&& 0xFFFFF000) &&& 0xFFF = 0
    ∧ s.areaBase = s.pau.areaHi.toNat * 2 ^ 32 + s.pau.areaLo.toNat
    ∧ (beginStarting s).bus.reads =
        s.bus.reads ++ [{ id := s.bus.nextRead, purpose := .settings, addr := s.areaBase, len := 256, discarded := false }]
    ∧ (beginEditionSweep w s).bus.reads =
        s.bus.reads ++ [{ id := s.bus.nextRead, purpose := .stamp, addr := s.areaBase, len := 4, discarded := false }]
    ∧ (∀ b : Bench, s.anchorAddr b = s.areaBase + 0x100 + 2 * b.val)
    ∧ (∀ i, s.cardAddr i = s.st.cardPool + 128 * i) ∧ (∀ j, s.orderAddr j = s.st.orderBoard + 64 * j)
    ∧ (∀ tag : Word, s.tagAddr tag = s.st.tagTable + 4 * (tag.toNat - s.st.tagBase))

/-- A register write that R1 discards changes nothing. From 01_the_plan_area.md R1. -/
def Obligations.DiscardedRegisterWriteChangesNothing : Prop :=
  ∀ (s : State) (offset : BitVec 12) (enables : BitVec 4) (value : Word),
    discardedWrite offset enables = true → exec (.registerWriteDiscarded offset enables value) s = .next s

/-- An EDITION write begins an edition sweep when none is in flight, sets edition due otherwise, and a sweep's end
serves it. R13. -/
def Obligations.EditionWritesAndSweepsDoNotOverlap : Prop :=
  ∀ (s : State) (v : Word),
    (s.active = false → exec (.edition v) s = .next { s with pau := { s.pau with writtenEdition := v } })
    ∧ (s.active = true → s.pau.sweep = none → exec (.edition v) s = .next { s with
        pau := { s.pau with writtenEdition := v, sweep := some { kind := .edition v, stage := .stamp } }
        bus := { s.bus with
          reads := s.bus.reads ++
            [{ id := s.bus.nextRead, purpose := .stamp, addr := s.areaBase, len := 4, discarded := false }]
          nextRead := s.bus.nextRead + 1 } })
    ∧ (s.active = true → s.pau.sweep ≠ none →
        exec (.edition v) s = .next { s with pau := { s.pau with writtenEdition := v, editionDue := true } })
    ∧ (s.pau.editionDue = true → endSweep s = { s with
        pau := { s.pau with editionDue := false, sweep := some { kind := .edition s.pau.writtenEdition, stage := .stamp } }
        bus := { s.bus with
          reads := s.bus.reads ++
            [{ id := s.bus.nextRead, purpose := .stamp, addr := s.areaBase, len := 4, discarded := false }]
          nextRead := s.bus.nextRead + 1 } })
    ∧ (s.pau.editionDue = false → endSweep s = { s with pau := { s.pau with sweep := none } })

/-- A write to EVENTS clears the bits written as 1, a write to EVENT_MASK loads it, and each finds the conditions
afresh. From 12_notices_events_and_statistics.md R181, R182, R183, R184.
The model's choices in it: log entry 37 (the order of the notices of one event). -/
def Obligations.EventRegisterWrites : Prop :=
  ∀ (s : State) (w : Word),
    exec (.events w) s =
      .next (({ s with ntu := { s.ntu with events := s.ntu.events &&& ~~~(w.truncate 11) } } : State).signalsFound false)
    ∧ exec (.eventMask w) s =
      .next (({ s with ntu := { s.ntu with mask := w.truncate 11 } } : State).signalsFound s.live.suppressPrior)

/-- A CONTROL write without CLEAR loads RUN and NOTICE_ENABLE, finds the conditions, and acts by the run state. From
13_run_drain_and_clear.md R188, R189, R192; 12_notices_events_and_statistics.md R184.
The model's choices in it: log entries 37 (the order of the notices of one event), 38 and 39 (the order of the cancels of
one event). -/
def Obligations.ControlWriteLoadsAndActs : Prop :=
  ∀ (s : State) (w : Word), w.getLsbD 1 = false →
    let t : State := ({ s with pau := { s.pau with run := w.getLsbD 0, noticeEnable := w.getLsbD 2 } } : State).signalsFound
      s.live.suppressPrior
    exec (.noticeEnable w) s = exec (.run w) s
    ∧ (s.pau.runState = .stopped → s.pau.run = false → w.getLsbD 0 = true → ∃ u, exec (.run w) s = .next u
        ∧ u.pau = { t.pau with runState := .starting, drainDue := false, sweepTimer := none, writeSeq := u.pau.writeSeq }
        ∧ u.bus.reads = s.bus.reads ++
            [{ id := s.bus.nextRead, purpose := .settings, addr := s.areaBase, len := 256, discarded := false }])
    ∧ (s.pau.runState = .stopped → ¬(s.pau.run = false ∧ w.getLsbD 0 = true) → exec (.run w) s = .next t)
    ∧ (s.pau.runState = .starting →
        exec (.run w) s = .next { t with pau := { t.pau with drainDue := !w.getLsbD 0 } })
    ∧ (s.pau.runState = .running → s.pau.run = true → w.getLsbD 0 = false →
        exec (.run w) s = .next (settle (enterDraining t)) ∧ (enterDraining t).pau.runState = .draining)
    ∧ (s.pau.runState = .running → ¬(s.pau.run = true ∧ w.getLsbD 0 = false) → exec (.run w) s = .next t)
    ∧ (s.pau.runState = .draining ∨ s.pau.runState = .faulted → exec (.run w) s = .next t)

/-- A Clear empties every block, keeps what R193 keeps, and leaves EVENTS 0 with every condition false. From
13_run_drain_and_clear.md R193; 10_the_grid_link.md R155; 11_bench_links_and_staffing.md R170.
The model's choices in it: log entries 25 and 33. -/
def Obligations.ClearEmptiesEveryBlock : Prop :=
  ∀ (s : State) (w : Word), w.getLsbD 1 = true → ∃ t, exec (.clear w) s = .next t
    ∧ t.pau = { s.pau with
        run := false, runState := .stopped, resetCause := .clear, errorCode := 0, editionDue := false, drainDue := false,
        sweep := none, sweepTimer := none,
        writeSeq := if s.pau.structural.isSome then s.pau.writeSeq + 1 else s.pau.writeSeq }
    ∧ t.ttu = Ttu.initial ∧ t.cdm = Cdm.initial ∧ t.wall = .replicate 64 Position.empty ∧ t.lnc = Lnc.initial
    ∧ t.lastLent = lastLentInitial ∧ t.exposures = [] ∧ t.mga = Mga.initial
    ∧ t.glc = { link := { s.glc.link with queue := [] }, holds := .replicate 10 PortHold.flowing }
    ∧ (∀ b : Bench, (t.bench b).staffing = .closed ∧ (t.bench b).picker = 0 ∧ (t.bench b).awaited = none
        ∧ (t.bench b).lastTicket = 255 ∧ (t.bench b).link.up = (s.bench b).link.up)
    ∧ t.ntu = { events := 0, mask := s.ntu.mask, signals := .replicate 4 false, capture := Capture.initial,
                counters := Counters.zero }
    ∧ (∀ r ∈ t.bus.reads, r.discarded = true) ∧ t.freeCount = s.freeCount ∧ t.pending = s.pending

/-- Register reads: STATUS shows run state, cause, error code and links; CLEAR reads 0; unassigned offsets read 0. From
01_the_plan_area.md R1, R2, Table 1-6. -/
def Obligations.RegistersReadTheirFields : Prop :=
  ∀ s : State, s.pau.errorCode < 64 →
    registerValue s 2 % 8 = s.pau.runState.code ∧ registerValue s 2 / 16 % 4 = s.pau.resetCause.code
    ∧ registerValue s 2 / 256 % 64 = s.pau.errorCode ∧ (registerValue s 2).testBit 16 = s.glc.link.up
    ∧ (∀ b : Bench, (registerValue s 2).testBit (17 + b.val) = (s.bench b).link.up)
    ∧ (registerValue s 1).testBit 0 = s.pau.run ∧ (registerValue s 1).testBit 1 = false
    ∧ (registerValue s 1).testBit 2 = s.pau.noticeEnable
    ∧ registerValue s 3 = s.pau.areaLo.toNat ∧ registerValue s 4 = s.pau.areaHi.toNat
    ∧ registerValue s 5 = s.pau.completedEdition.toNat ∧ registerValue s 6 = s.ntu.events.toNat
    ∧ registerValue s 7 = s.ntu.mask.toNat ∧ ∀ off, 0x20 ≤ off → windowByte s off = 0

/-- A Status Block write counts first, sends the counter first and its copy last, and shows the state of its moment at the
offsets of its tables. From 01_the_plan_area.md R17, R19, R20, Tables 1-12 to 1-16; 13_run_drain_and_clear.md R188.
The model's choices in it: log entry 10. -/
def Obligations.StatusBlockWriteIsOneSnapshot : Prop :=
  ∀ s : State, (s.pau.structural = none → writeStatus s = s)
    ∧ ∀ st, s.pau.structural = some st →
      let t : State := { s with pau := { s.pau with writeSeq := s.pau.writeSeq + 1 } }
      let seq := natToBytes 4 (s.pau.writeSeq + 1).toNat
      let block := statusHead t ++ seq ++ statusBody t ++ seq
      let slice (off len : Nat) : List Byte := (block.drop off).take len
      let c := s.ntu.counters
      let k := s.ntu.capture
      writeStatus s = { t with bus := { s.bus with posted := s.bus.posted ++
        [{ addr := st.statusBlock + 0x00C, data := seq },
         { addr := st.statusBlock, data := statusHead t },
         { addr := st.statusBlock + 0x010, data := statusBody t },
         { addr := st.statusBlock + 0x1FC, data := seq }] } }
      ∧ (statusHead t).length = 0x00C ∧ (statusBody t).length = 0x1FC - 0x010
      ∧ slice 0x000 0x00C = natToBytes 4 s.pau.completedEdition.toNat
          ++ [BitVec.ofNat 8 s.pau.runState.code, BitVec.ofNat 8 s.pau.errorCode, BitVec.ofNat 8 s.pau.resetCause.code,
              BitVec.ofNat 8 ((if s.glc.link.up then 1 else 0) + 2 * benchLinkBits s)]
          ++ natToBytes 4 s.pau.floorClock.toNat
      ∧ (∀ b : Bench, slice (0x010 + 8 * b.val) 8 =
          if st.benchEnabled b then
            [BitVec.ofNat 8 (s.bench b).staffing.code, BitVec.ofNat 8 (s.chain b).state.code,
             BitVec.ofNat 8 (s.staged b).length, 0] ++ natToBytes 2 ((s.chain b).cursor.getD 0xFFFF) ++ [0, 0]
          else [0, 0, 0, 0, 0xFF, 0xFF, 0, 0])
      ∧ (∀ p : Port, slice (0x030 + 4 * p.val) 4 =
          if st.portPresent p then
            [BitVec.ofNat 8 (s.lane p).length, BitVec.ofNat 8 (s.portCalls p).length,
             (if (s.hold p).holding then 1 else 0),
             BitVec.ofNat 8 (1 + (if s.headStuck p then 2 else 0) + (if s.overdueAt p then 4 else 0))]
          else [0, 0, 0, 0])
      ∧ slice 0x058 8 = [BitVec.ofNat 8 (requesterCode s.mga.merge.holder), BitVec.ofNat 8 (requesterCode s.mga.parked),
          BitVec.ofNat 8 ((if s.mga.merge.inSwing then 1 else 0) + (if s.mga.holdTimer = 0 then 0 else 2)), 0]
          ++ natToBytes 2 (returnHoldDs s) ++ [0, 0]
      ∧ slice 0x060 32 = [BitVec.ofNat 8 (k.kind.elim 0 ExcKind.code), BitVec.ofNat 8 (k.bench.elim 0xFF (fun b => b.val)),
          k.port, (if k.tagPresent then 1 else 0)]
          ++ natToBytes 2 (k.card.getD 0xFFFF) ++ natToBytes 2 (k.order.getD 0xFFFF) ++ natToBytes 4 k.tag.toNat
          ++ natToBytes 4 k.time.toNat ++ natToBytes 4 k.later.toNat ++ List.replicate 12 0
      ∧ slice 0x080 0x040 = wordsBytes [c.calls, c.refusals, c.retries, c.callFailures, c.transitLosses, c.mergeGrants,
          c.recircGrants, c.tenureTimeouts, c.returnHolds, c.dispatchHolds, c.gridFrameErrors, c.benchFrameErrors[0],
          c.benchFrameErrors[1], c.benchFrameErrors[2], c.benchFrameErrors[3], 0]
      ∧ (∀ b : Bench, let n := c.bench[b]
          slice (0x0C0 + 0x38 * b.val) 0x38 = wordsBytes [n.presentations, n.unitsPut, n.linesComplete, n.linesShort,
            n.linesCut, n.exposureWarns, n.recalls, n.misroutes, n.dwell[0], n.dwell[1], n.dwell[2], n.dwell[3], n.dwell[4],
            n.dwell[5]])
      ∧ slice 0x1A0 92 = List.replicate 92 0 ∧ block.length = 512

/-- Raising an event sets its bit, records the conditions, and sends a notice for each vector that becomes true. From
12_notices_events_and_statistics.md R181, R183.
The model's choices in it: log entry 37 (the order of the notices of one event). -/
def Obligations.RaisedEventSetsItsBitAndSendsItsNotice : Prop :=
  ∀ (e : Event) (s : State),
    raise e s = ({ s with ntu := { s.ntu with events := s.ntu.events ||| (1 : BitVec 11) <<< e.index } } : State).signalsFound
      false
    ∧ [Event.cardDone, .orderClosed, .sweepDone, .exception, .exposure, .settingsRefused, .staffing, .lateOrder, .gridLink,
        .benchLink, .runState].map Event.index = [0, 1, 2, 3, 4, 5, 6, 7, 8, 9, 10]

/-- An armed fault capture takes the whole report and is disarmed; an unarmed one counts the exception. From
12_notices_events_and_statistics.md R185.
The model's choices in it: log entry 6. -/
def Obligations.FaultCaptureTakesOneRecordAndCounts : Prop :=
  ∀ (r : Report) (s : State),
    (s.ntu.events.getLsbD 3 = false → ∃ absent : Word,
      report r s = raise .exception { s with
        ntu := { s.ntu with capture :=
          { kind := some r.kind, bench := r.bench, port := r.port.getD 0xFF, tagPresent := r.tag.isSome, card := r.card,
            order := r.order, tag := r.tag.getD absent, time := s.pau.floorClock, later := 0 } }
        freeCount := s.freeCount + 1 }
      ∧ (report r s).ntu.events.getLsbD 3 = true)
    ∧ (s.ntu.events.getLsbD 3 = true →
      report r s = { s with ntu := { s.ntu with capture := { s.ntu.capture with
        later := if s.ntu.capture.later = 0xFFFFFFFF then 0xFFFFFFFF else s.ntu.capture.later + 1 } } })

/-- A dwell report adds one to the bucket of the named bench that holds the dwell, and to nothing else. R187. -/
def Obligations.DwellReportAddsOneToItsBucket : Prop :=
  ∀ (b : Bench) (d : Nat) (s : State),
    (∃ k, countDwell b d s = { s with ntu := { s.ntu with counters := { s.ntu.counters with bench := k } } }
      ∧ (∀ c : Bench, c ≠ b → k[c] = s.ntu.counters.bench[c])
      ∧ k[b] = { s.ntu.counters.bench[b] with dwell := k[b].dwell }
      ∧ (∀ i : Fin 6, k[b].dwell[i] =
          if i = dwellBucket d then s.ntu.counters.bench[b].dwell[i] + 1 else s.ntu.counters.bench[b].dwell[i])
      ∧ k[b].dwell.toList.sum = s.ntu.counters.bench[b].dwell.toList.sum + 1)
    ∧ (dwellBucket d = 0 ↔ d < 20) ∧ (dwellBucket d = 1 ↔ 20 ≤ d ∧ d < 40) ∧ (dwellBucket d = 2 ↔ 40 ≤ d ∧ d < 80)
    ∧ (dwellBucket d = 3 ↔ 80 ≤ d ∧ d < 160) ∧ (dwellBucket d = 4 ↔ 160 ≤ d ∧ d < 320)
    ∧ (dwellBucket d = 5 ↔ 320 ≤ d)

/-- The Settings Block's return ends STARTING: accepted settings become the part's, refused ones fault it with their
code. From 13_run_drain_and_clear.md R188, R189; 01_the_plan_area.md R9, R10; 11_bench_links_and_staffing.md R175, R180;
12_notices_events_and_statistics.md R181, R185.
The model's choices in it: log entries 12 and 15. -/
def Obligations.SettingsReadStartsOrFaults : Prop :=
  ∀ (s : State) (id : Nat) (data : List Byte), data.length = 256 → s.reading id .settings →
    let st := parseStructural data
    let l := parseLive (data.drop 0x80)
    (settingsError s.areaBase st l = 0 → ∃ t, exec (.settingsReadReturn id data) s = .next t
      ∧ t.pau.structural = some st ∧ t.pau.live = some l ∧ t.pau.errorCode = 0 ∧ t.pau.floorClock = st.clockBase
      ∧ t.pau.completedEdition = s.pau.writtenEdition ∧ t.pau.editionDue = false
      ∧ t.pau.stampTaken = some (stampOf data) ∧ t.exposures = [] ∧ t.lnc.calls = []
      ∧ (∀ b : Bench, t.staged b = []) ∧ (∀ q : PutPos, (t.position q).state = .empty)
      ∧ (s.pau.drainDue = false → t.ntu.counters = Counters.zero)
      ∧ (∀ b : Bench, (t.bench b).awaited = none
          ∧ (t.bench b).staffing = (if st.benchEnabled b then (s.bench b).staffing else .closed)
          ∧ (t.bench b).picker = (if st.benchEnabled b then (s.bench b).picker else 0))
      ∧ t.ntu.events = s.ntu.events ||| Event.runState.bits ∧ t.ntu.capture = s.ntu.capture
      ∧ t.pau.runState = (if s.pau.drainDue then .stopped else .running))
    ∧ (settingsError s.areaBase st l ≠ 0 → ∃ t, exec (.settingsReadReturn id data) s = .next t
      ∧ t.pau.runState = .faulted ∧ t.pau.errorCode = settingsError s.areaBase st l
      ∧ t.pau.structural = s.pau.structural ∧ t.pau.live = s.pau.live ∧ t.pau.stampTaken = some (stampOf data))

/-- A bus error or timeout on a read in flight faults the part: its sweep, lookups, bindings and grid queue end, the
rest freezes. From 01_the_plan_area.md R6, R18; 13_run_drain_and_clear.md R191; 04_orders_and_the_put_wall.md R71.
The model's choices in it: log entries 3, 15, 20 and 21 (that a take's read ending in a bus error or timeout in DRAINING
still faults the part is the model's choice). -/
def Obligations.BusErrorFaultsThePart : Prop :=
  ∀ (s : State) (id : Nat) (r : Read), s.findRead id = some r → r.discarded = false →
    s.pau.runState = .starting ∨ s.active = true →
    exec (.readTimeout id) s = exec (.readBusError id) s ∧ ∃ t, exec (.readBusError id) s = .next t
      ∧ t.pau.runState = .faulted ∧ t.pau.sweep = none ∧ t.pau.sweepTimer = none ∧ t.pau.editionDue = false
      ∧ t.ttu = { s.ttu with misses := [], inFlight := none } ∧ (∀ x ∈ t.bus.reads, x.discarded = true)
      ∧ t.glc = { s.glc with link := { s.glc.link with queue := [] } }
      ∧ (∀ q : PutPos, t.position q =
          if (s.position q).state = .binding then Position.empty else { s.position q with stale := false })
      ∧ t.lnc = s.lnc ∧ t.exposures = s.exposures ∧ t.mga = s.mga ∧ t.cdm.staging = s.cdm.staging
      ∧ (s.ntu.events.getLsbD 3 = false → t.ntu.capture.kind = some .busError
          ∧ t.ntu.capture.card = r.purpose.busReport.card ∧ t.ntu.capture.order = r.purpose.busReport.order
          ∧ t.ntu.capture.tagPresent = r.purpose.busReport.tag.isSome)

/-- A read return ends a discarded read of its own kind with no other effect, changes nothing when the read is of another kind
or unknown, and stops on data of a wrong length. From 01_the_plan_area.md R5, R6.
The model's choices in it: log entries 7 and 10. -/
def Obligations.ReadsThatTakeNoEffect : Prop :=
  ∀ (s : State) (id : Nat) (w : Word) (h : Half) (f : Byte) (d256 d128 d64 d32 : List Byte),
    let ends : List Instr := [.readBusError id, .readTimeout id, .stampReadReturn id w, .starvedChainReadReturn id h,
      .cardFlagsReadReturn id f, .orderFlagsReadReturn id f, .linkStepReadReturn id h, .tagTableReadReturn id w]
    let long : List Instr := [.settingsReadReturn id d256, .liveSettingsReadReturn id d128, .cardReadReturn id d64,
      .orderRecordReadReturn id d32]
    let whole := d256.length = 256 ∧ d128.length = 128 ∧ d64.length = 64 ∧ d32.length = 32
    (∀ c ∈ ends ++ long, c ∈ ends ∨ whole →
      (∀ r, s.findRead id = some r → r.discarded = true →
        exec c s = .next (if answersRead c r.purpose then endRead id s else s))
      ∧ (∀ r, s.findRead id = some r → answersRead c r.purpose = false → exec c s = .next s)
      ∧ (s.findRead id = none → exec c s = .next s))
    ∧ (d256.length ≠ 256 ∧ d128.length ≠ 128 ∧ d64.length ≠ 64 ∧ d32.length ≠ 32 →
        ∀ c ∈ long, exec c s = .fault .readDataLength)

/-- Stage 1 of a sweep: an unchanged stamp ends it, a changed one reads the live settings, which are applied whole or
refused. From 01_the_plan_area.md R10, R11, R14.
The model's choices in it: log entry 12 (the effect, then the settling, then the sweep's next stage). -/
def Obligations.StampAndLiveSettingsReads : Prop :=
  ∀ (s : State) (id : Nat) (stamp : Word) (data : List Byte),
    (s.reading id .stamp → s.pau.stampTaken = some stamp →
      exec (.stampReadReturn id stamp) s = .next (advanceSweep (endRead id s)))
    ∧ (∀ w, s.reading id .stamp → s.pau.stampTaken ≠ some stamp → s.pau.sweep = some w →
      exec (.stampReadReturn id stamp) s = .next { endRead id s with
        pau := { s.pau with stampTaken := some stamp, sweep := some { w with stage := .liveSettings } }
        bus := { (endRead id s).bus with
          reads := (endRead id s).bus.reads ++
            [{ id := s.bus.nextRead, purpose := .liveSettings, addr := s.areaBase + 0x80, len := 128, discarded := false }]
          nextRead := s.bus.nextRead + 1 } })
    ∧ (s.reading id .liveSettings → data.length = 128 → liveError (parseLive data) = 0 →
      exec (.liveSettingsReadReturn id data) s = .next (advanceSweep (settle (({ endRead id s with
        pau := { s.pau with
          live := some (parseLive data), errorCode := 0
          sweepTimer := if (parseLive data).sweepCode = s.live.sweepCode then s.pau.sweepTimer
            else (parseLive data).sweepReload } } : State).signalsFound true))))
    ∧ (s.reading id .liveSettings → data.length = 128 → liveError (parseLive data) ≠ 0 →
      exec (.liveSettingsReadReturn id data) s = .next (advanceSweep (settle (report { kind := .settingsRefused }
        (raise .settingsRefused { endRead id s with pau := { s.pau with errorCode := liveError (parseLive data) } })))))

/-- A stage-3 value other than FFFFh ends the chain's starving: an index below the card count makes its card read, another is
reported BAD_CARD and starves the chain again. FFFFh leaves it starved. From 01_the_plan_area.md R15;
03_presentation_cards_and_bench_chains.md R38, R44.
The model's choices in it: log entry 12 (the effect, then the settling, then the sweep's next stage). -/
def Obligations.StarvedChainReadEndsStarving : Prop :=
  ∀ (s : State) (id : Nat) (b : Bench) (atAnchor : Bool) (cur : Option Nat) (value : Half),
    s.reading id (.starved b atAnchor cur) →
    let starved : ChainState := if atAnchor then .starvedAtAnchor else .starvedAtLink
    let t := endRead id s
    (s.pau.runState = .running → s.chain b = { state := starved, cursor := cur, takeInFlight := (s.chain b).takeInFlight } →
      value ≠ 0xFFFF →
      (value.toNat < s.st.cardCount → exec (.starvedChainReadReturn id value) s = .next (advanceSweep (settle
        (issueRead (.cardStep b value.toNat) (s.cardAddr value.toNat) 64
          (setChain b { state := if atAnchor then .atAnchor else .following, cursor := cur, takeInFlight := true } t)))))
      ∧ (s.st.cardCount ≤ value.toNat → exec (.starvedChainReadReturn id value) s = .next (advanceSweep (settle
        (setChain b { state := if cur.isNone then .starvedAtAnchor else .starvedAtLink, cursor := cur, takeInFlight := false }
          (report { kind := .badCard, bench := some b, card := some value.toNat } t))))))
    ∧ (value = 0xFFFF ∨ s.pau.runState ≠ .running ∨ (s.chain b).state ≠ starved ∨ (s.chain b).cursor ≠ cur →
      exec (.starvedChainReadReturn id value) s = .next (advanceSweep (settle t)))

/-- Stages 4 and 5 read the flags of every held card and every held order; stage-4 data withdraws a held card once, where it
stands; stage-5 data closes a BOUND position under the same binding; stage 6 writes the Status Block, and for an edition
sweep
sets the completed edition and raises SWEEP_DONE. From 01_the_plan_area.md R13, R16, R17;
03_presentation_cards_and_bench_chains.md R47, R48, R49; 04_orders_and_the_put_wall.md R65; 05_calling_totes.md R88.
The model's choices in it: log entries 12 (the effect, then the settling, then the sweep's next stage), 34 (the order in
which one stage's reads are asked for) and 35 (the order of lights and ports). -/
def Obligations.SweepFlagReads : Prop :=
  ∀ (s : State) (id : Nat) (flags : Byte) (card : Nat) (seq : Word) (q : PutPos) (j : Nat) (held : Bool),
    let t := endRead id s
    let marked := updateTaking card seq (fun x => { x with withdrawn := true }) t
    let orders : List (PutPos × Nat) := (List.finRange 64).filterMap (fun q =>
      if (s.position q).state.holds then (s.position q).order.map (fun j => (q, j)) else none)
    (s.reading id (.cardFlags card seq) →
      (∀ c, flags.getLsbD 1 = true → s.taking card seq = some c → c.withdrawn = false →
        ((s.staged c.bench).any (fun x => x.named card seq) = true →
          exec (.cardFlagsReadReturn id flags) s = .next (advanceSweep (settle
            (finishStaged .withdrawn .withdrawn { c with withdrawn := true } marked))))
        ∧ ((s.staged c.bench).any (fun x => x.named card seq) = false →
          exec (.cardFlagsReadReturn id flags) s = .next (advanceSweep (settle
            (allPorts.foldl (fun u p => withdrawHead card seq p u)
              ((marked.lnc.calls.filter (fun x => x.card.named card seq)).foldl
                (fun u x => cancelCall .withdrawal x u) marked))))))
      ∧ (flags.getLsbD 1 = false ∨ s.taking card seq = none ∨ (∃ c, s.taking card seq = some c ∧ c.withdrawn = true) →
        exec (.cardFlagsReadReturn id flags) s = .next (advanceSweep (settle t))))
    ∧ (∀ (x : Call) (u : State),
        (x.state = .called ∨ x.state = .accepted → cancelCall .withdrawal x u = gridHand (.callCancel x.number)
          (putCall { x with
            state := .cancelling, cancel := some (x.cancel.getD .withdrawal), inquiries := 1, timer := .inquiry 40 } u))
        ∧ (x.state ≠ .called → x.state ≠ .accepted → cancelCall .withdrawal x u = u))
    ∧ (∀ (p : Port) (e : Entry) (c : CardCtx) (u : State), u.head p = some e → e.card = some c → c.named card seq = true →
        (e.state = .presenting ∨ e.state = .waitingBench →
          withdrawHead card seq p u = endHead p .withdrawn false (resolveHead p (fun _ => true) .withdrawn u))
        ∧ (e.state ≠ .presenting → e.state ≠ .waitingBench → withdrawHead card seq p u = u))
    ∧ (s.reading id (.orderFlags q j held) →
      (flags.getLsbD 0 = true → held = true → (s.position q).state = .bound →
        exec (.orderFlagsReadReturn id flags) s =
          .next (advanceSweep (settle (stopAccepting q .closing (benchHand (posBench q) (.closeCue (posIndex q)) t)))))
      ∧ (flags.getLsbD 0 = false ∨ held = false ∨ (s.position q).state ≠ .bound →
        exec (.orderFlagsReadReturn id flags) s = .next (advanceSweep (settle t))))
    ∧ (s.held ≠ [] → stage4 s = { s with
        pau := { s.pau with sweep := s.pau.sweep.map (fun w => { w with stage := .cardFlags }) }
        bus := { s.bus with
          reads := s.bus.reads ++ s.held.zipIdx.map (fun x =>
            { id := s.bus.nextRead + x.2, purpose := .cardFlags x.1.card x.1.seq, addr := s.cardAddr x.1.card + 1, len := 1,
              discarded := false })
          nextRead := s.bus.nextRead + s.held.length } })
    ∧ (s.held = [] → s.stageReading .cardFlags = false → stage4 s = stage5 s)
    ∧ (orders ≠ [] → stage5 s = { s with
        pau := { s.pau with sweep := s.pau.sweep.map (fun w => { w with stage := .orderFlags }) }
        bus := { s.bus with
          reads := s.bus.reads ++ orders.zipIdx.map (fun x =>
            { id := s.bus.nextRead + x.2, purpose := .orderFlags x.1.1 x.1.2 true, addr := s.orderAddr x.1.2 + 1, len := 1,
              discarded := false })
          nextRead := s.bus.nextRead + orders.length } })
    ∧ (orders = [] → s.stageReading .orderFlags = false → stage5 s = stage6 s)
    ∧ (∀ w, s.pau.sweep = some w → s.stageReading w.stage = false →
        advanceSweep s = match w.stage with
          | .stamp => stage3 (flush s)
          | .liveSettings => stage3 (flush s)
          | .starved => stage4 s
          | .cardFlags => stage5 s
          | .orderFlags => stage6 s)
    ∧ (∀ w, s.pau.sweep = some w → s.stageReading w.stage = true → advanceSweep s = s)
    ∧ (∀ v g, s.pau.sweep = some { kind := .edition v, stage := g } →
        let u := writeStatus s
        stage6 s = endSweep (raise .sweepDone { u with pau := { u.pau with completedEdition := v } }))
    ∧ (∀ g, s.pau.sweep = some { kind := .timed, stage := g } → stage6 s = endSweep (writeStatus s))

/-- The link step: FFFFh starves the chain, a bad index reports BAD_CARD and starves it, a good one makes the card read.
R38. -/
def Obligations.LinkStepAndIndexCheck : Prop :=
  ∀ (s : State) (id : Nat) (b : Bench) (cur : Option Nat) (value : Half), s.reading id (.linkStep b cur) →
    let t := endRead id s
    let starved : Chain := { s.chain b with
      state := if (s.chain b).cursor.isNone then .starvedAtAnchor else .starvedAtLink, takeInFlight := false }
    (s.pau.runState = .running → value = 0xFFFF →
      exec (.linkStepReadReturn id value) s = .next (settle (setChain b starved t)))
    ∧ (s.pau.runState = .running → value ≠ 0xFFFF → s.st.cardCount ≤ value.toNat →
      exec (.linkStepReadReturn id value) s = .next (settle (setChain b starved
        (report { kind := .badCard, bench := some b, card := some value.toNat, order := none, tag := none } t))))
    ∧ (s.pau.runState = .running → value ≠ 0xFFFF → value.toNat < s.st.cardCount →
      exec (.linkStepReadReturn id value) s = .next (settle
        (issueRead (.cardStep b value.toNat) (s.st.cardPool + 128 * value.toNat) 64
          (setChain b { s.chain b with takeInFlight := true } t))))
    ∧ (s.pau.runState ≠ .running →
      exec (.linkStepReadReturn id value) s = .next (settle (setChain b { s.chain b with takeInFlight := false } t)))

/-- The card step: a premature link starves the chain; a card is marked TAKEN, then accepted or returned with its
result. From 03_presentation_cards_and_bench_chains.md R39, R40, R41, R42, R43.
The model's choices in it: log entries 17 (the report after the DONE write and CARD_DONE) and 24. -/
def Obligations.CardStepTakesOrReturnsTheCard : Prop :=
  ∀ (s : State) (id : Nat) (b : Bench) (card : Nat) (data : List Byte) (cls : CardClass), s.reading id (.cardStep b card) →
    data.length = 64 → s.pau.runState = .running →
    let t := endRead id s
    let k := parseCard data
    let u := setChain b { state := .following, cursor := some card, takeInFlight := false }
      (post (s.cardAddr card) [2] t)
    (k.state ≠ 1 ∨ s.holdsCard card = true →
      exec (.cardReadReturn id data) s = .next (settle (setChain b { s.chain b with
        state := if (s.chain b).cursor.isNone then .starvedAtAnchor else .starvedAtLink, takeInFlight := false } t)))
    ∧ (k.state = 1 → s.holdsCard card = false →
      (checkCorrect data = false → exec (.cardReadReturn id data) s = .next (settle
        (report { kind := .checkFail, bench := some b, card := some card, tag := some k.tag }
          (finishAtTake card k .badCard .notPresented u))))
      ∧ (checkCorrect data = true → k.fieldsGood s.st b = false → exec (.cardReadReturn id data) s = .next (settle
        (report { kind := .badCard, bench := some b, card := some card, tag := some k.tag }
          (finishAtTake card k .badCard .notPresented u))))
      ∧ (checkCorrect data = true → k.fieldsGood s.st b = true → k.spent s.live = true →
        exec (.cardReadReturn id data) s = .next (settle (finishAtTake card k .exposureSpent .notPresented u)))
      ∧ (checkCorrect data = true → k.fieldsGood s.st b = true → k.spent s.live = false → k.withdraw = true →
        exec (.cardReadReturn id data) s = .next (settle (finishAtTake card k .withdrawn .withdrawn u)))
      ∧ (checkCorrect data = true → k.fieldsGood s.st b = true → k.spent s.live = false → k.withdraw = false →
        classOf k.cls = some cls → exec (.cardReadReturn id data) s = .next (settle { u with
          cdm := { u.cdm with
            staging := u.cdm.staging.set b (s.staged b ++ [k.context card s.cdm.takeSeq b cls s.pau.floorClock])
            takeSeq := s.cdm.takeSeq + 1 } })))

/-- A tag table read answers its waiters in order, installs a fresh translation, and starts the next read; a lookup is answered
at once or waits, and a flush empties the cache and makes a read in flight stale. From
02_tag_translation.md R21, R24, R25, R26, R28, R29, R30; 01_the_plan_area.md R15. -/
def Obligations.TagTableReadAnswersItsWaiters : Prop :=
  (∀ (s : State) (id : Nat) (tag : Word) (m : MissRead) (entry : Word), s.reading id (.tagEntry tag) →
    s.ttu.inFlight = some m →
    let answered (l : Lookup) : Bool := l.tag == m.tag && (!m.stale || l.before)
    let left := s.ttu.misses.filter (fun l => !answered l)
    ∃ t, exec (.tagTableReadReturn id entry) s = .next (settle t)
      ∧ t.ttu = {
          cache := if m.stale then s.ttu.cache
            else ({ tag := m.tag, meaning := translationOf s.st entry } : CacheEntry) :: s.ttu.cache.take 15
          misses := left
          inFlight := left.head?.map (fun l => { tag := l.tag, stale := false }) }
      ∧ t = startMiss ((s.ttu.misses.filter answered).foldl
          (fun u l => deliver l.asker l.tag (.entry (translationOf s.st entry)) u)
          { endRead id s with ttu := { t.ttu with inFlight := none } }))
  ∧ (∀ (s : State) (tag : Word) (asker : Asker),
    let inWindow := s.st.tagBase ≤ tag.toNat ∧ tag.toNat < s.st.tagBase + 2 ^ s.st.tagExp
    let joined : List Lookup := s.ttu.misses ++ [{ tag := tag, asker := asker, before := false }]
    (s.active = false → lookup tag asker s = deliver asker tag .busy s)
    ∧ (s.active = true → ¬inWindow → lookup tag asker s = deliver asker tag .foreign s)
    ∧ (s.active = true → inWindow →
      (∀ e, s.ttu.cache.find? (fun e => e.tag == tag) = some e →
        lookup tag asker s = deliver asker tag (.entry e.meaning)
          { s with ttu := { s.ttu with cache := e :: s.ttu.cache.filter (fun f => f.tag != e.tag) } })
      ∧ ((∀ e ∈ s.ttu.cache, e.tag ≠ tag) →
        (8 ≤ s.ttu.misses.length → lookup tag asker s = deliver asker tag .busy s)
        ∧ (∀ m, s.ttu.misses.length < 8 → s.ttu.inFlight = some m →
            lookup tag asker s = { s with ttu := { s.ttu with misses := joined } })
        ∧ (s.ttu.misses = [] → s.ttu.inFlight = none →
            lookup tag asker s = issueRead (.tagEntry tag) (s.tagAddr tag) 4
              { s with ttu := { s.ttu with misses := joined, inFlight := some { tag := tag, stale := false } } })))
    ∧ (s.ttu.inFlight = none → flush s = { s with ttu := { s.ttu with cache := [] } })
    ∧ (∀ m, s.ttu.inFlight = some m → flush s = { s with ttu := {
        cache := []
        misses := s.ttu.misses.map (fun l => { l with before := true })
        inFlight := some { m with stale := true } } })
    ∧ stage2 s = stage3 (flush s))

/-- A table entry translates by its kind and index; what is out of range or unknown is NONE; the same serves answer and
cache. R27. -/
def Obligations.TranslationOfATableEntry : Prop :=
  ∀ (st : Structural) (e f : Word),
    let kind := e.toNat / 65536 % 256
    let index := e.toNat % 65536
    (kind = 0 → translationOf st e = .none) ∧ (kind = 3 → translationOf st e = .barred)
    ∧ (kind = 1 → index < st.cardCount → translationOf st e = .card index)
    ∧ (kind = 1 → st.cardCount ≤ index → translationOf st e = .none)
    ∧ (kind = 2 → index < st.orderCount → translationOf st e = .order index)
    ∧ (kind = 2 → st.orderCount ≤ index → translationOf st e = .none)
    ∧ (4 ≤ kind → translationOf st e = .none)
    ∧ (e.toNat % 2 ^ 24 = f.toNat % 2 ^ 24 → translationOf st e = translationOf st f)
    ∧ ∀ (s : State) (m : MissRead), m.stale = false →
      (translationReturned m e s).ttu.cache.head? = some { tag := m.tag, meaning := translationOf s.st e }
      ∧ (∀ l, s.ttu.misses = [l] → l.tag = m.tag → translationReturned m e s = deliver l.asker l.tag
          (.entry (translationOf s.st e)) { s with ttu := {
            cache := ({ tag := m.tag, meaning := translationOf s.st e } : CacheEntry) :: s.ttu.cache.take 15
            misses := [], inFlight := none } })
      ∧ (s.ttu.misses = [] → (translationReturned m e s).ntu = s.ntu)

/-- An order record read binds a good record and refuses the others by their first failing check. From
04_orders_and_the_put_wall.md R59, R60. -/
def Obligations.OrderRecordReadBindsOrRefuses : Prop :=
  ∀ (s : State) (id : Nat) (q : PutPos) (j : Nat) (data : List Byte), s.reading id (.orderRecord q j) → data.length = 32 →
    let t := endRead id s
    let e := s.position q
    let o := parseOrder data
    let claims := e.stale = false ∧ e.state = .binding ∧ e.step = .read ∧ e.order = some j
    (e.stale = true →
      exec (.orderRecordReadReturn id data) s = .next (settle { t with wall := s.wall.set q { e with stale := false } }))
    ∧ (claims → o.state ≠ 1 → exec (.orderRecordReadReturn id data) s = .next (settle (failBinding q .unknownTote t)))
    ∧ (claims → o.state = 1 → checkCorrect data = false → exec (.orderRecordReadReturn id data) s = .next (settle
        (report { kind := .checkFail, bench := some (posBench q), order := some j, tag := some e.scanned }
          (failBinding q .unknownTote t))))
    ∧ (claims → o.state = 1 → checkCorrect data = true → o.tag ≠ e.scanned →
        exec (.orderRecordReadReturn id data) s = .next (settle (failBinding q .unknownTote t)))
    ∧ (claims → o.state = 1 → checkCorrect data = true → o.tag = e.scanned → o.bench ≠ (posBench q).val →
        exec (.orderRecordReadReturn id data) s = .next (settle (failBinding q .wrongBench t)))
    ∧ (claims → o.state = 1 → checkCorrect data = true → o.tag = e.scanned → o.bench = (posBench q).val →
        let late := decide (o.deadline.toNat < s.pau.floorClock.toNat)
        let bound : Position := { e with
          state := .bound
          linesExpected := o.linesExpected
          deadline := o.deadline
          linesCompleted := 0
          unitsPut := 0
          timeBound := s.pau.floorClock
          late := late }
        let part : OrderPart :=
          { reason := .none
            pos := q
            late := late
            linesCompleted := 0
            unitsPut := 0
            timeBound := s.pau.floorClock
            timeClosed := none }
        let u := answerPlace q .accept (post (s.orderAddr j) [2] (post (s.orderAddr j + 0x20) part.bytes
          { t with wall := s.wall.set q bound }))
        exec (.orderRecordReadReturn id data) s = .next (settle (if late then raise .lateOrder u else u)))

/-- A drain begins by finishing every staged card DRAINED and cancelling every call in CALLED or ACCEPTED, and ends when every
lane and call table is empty and the merge OPEN: held orders written CLOSED with reason DRAINED, PANEL_RESET, holds lapsed,
STOPPED. From 13_run_drain_and_clear.md R188, R192; 03_presentation_cards_and_bench_chains.md R46, R50, R53;
04_orders_and_the_put_wall.md R68, R71; 05_calling_totes.md R88; 09_the_return_merge.md R153; 10_the_grid_link.md R169;
11_bench_links_and_staffing.md R178.
The model's choices in it: log entries 15, 38 and 39 (the order of the cancels of one event). -/
def Obligations.DrainEndsAtItsEndCondition : Prop :=
  (∀ s : State,
    let finished := allBenches.foldl (fun t b => (t.staged b).foldl (fun u c => finishStaged .drained .notPresented c u) t) s
    enterDraining s = setRunState .draining (finished.lnc.calls.foldl (fun t c => cancelCall .drain c t) finished)
    ∧ (enterDraining s).pau.runState = .draining
    ∧ (∀ (b : Bench) (c : CardCtx), c ∈ s.staged b → c.bench = b → c ∉ (enterDraining s).staged b)
    ∧ (∀ c : CardCtx,
      let t := { s with cdm := { s.cdm with
        staging := s.cdm.staging.set c.bench ((s.staged c.bench).filter (fun d => !d.named c.card c.seq)) } }
      let done : CardCtx := { c with
        result := some .drained
        exposureTotal := some (s.exposureTotal c)
        lines := c.lines.map (fun l =>
          { l with picked := 0, remaining := 0, shortfall := l.qty, result := some .notPresented }) }
      finishStaged .drained .notPresented c s =
        raise .cardDone (post (s.cardAddr c.card) [3] (post (s.cardAddr c.card + 0x40)
          (done.part .drained s.clock).bytes (endExposure c t))))
    ∧ (∀ c : Call,
      (c.state = .called ∨ c.state = .accepted → cancelCall .drain c s = gridHand (.callCancel c.number)
        (putCall { c with
          state := .cancelling, cancel := some (c.cancel.getD .drain), inquiries := 1, timer := .inquiry 40 } s))
      ∧ (c.state ≠ .called → c.state ≠ .accepted → cancelCall .drain c s = s)))
  ∧ ∀ s : State,
    (¬(s.pau.runState = .draining ∧ s.lnc.calls = [] ∧ (∀ p : Port, s.lane p = []) ∧ s.mga.merge = .idle) →
      drainTest s = s)
    ∧ (s.pau.runState = .draining → s.lnc.calls = [] → (∀ p : Port, s.lane p = []) → s.mga.merge = .idle →
      let t := drainTest s
      t.pau.runState = .stopped ∧ t.pau.sweep = none ∧ t.pau.sweepTimer = none ∧ t.pau.editionDue = false
      ∧ (∀ r ∈ t.bus.reads, r.discarded = true) ∧ t.ttu = { s.ttu with misses := [], inFlight := none }
      ∧ (∀ q : PutPos, (t.position q).state = .empty ∧ (t.position q).stale = false)
      ∧ t.mga = { s.mga with requests := [], recircFlag := false, recircTimedOut := false, holdTimer := 0 }
      ∧ t.glc.link = { s.glc.link with queue := [] }
      ∧ (∀ p : Port, t.hold p = { s.hold p with holding := false, refresh := none, expiry := none })
      ∧ t.lnc = s.lnc ∧ t.exposures = s.exposures ∧ t.pau.live = s.pau.live ∧ t.pau.structural = s.pau.structural
      ∧ (∀ (q : PutPos) (j : Nat), (s.position q).state.holds = true → (s.position q).order = some j →
        let e := s.position q
        let part : OrderPart :=
          { reason := .drained
            pos := q
            late := e.late
            linesCompleted := e.linesCompleted
            unitsPut := e.unitsPut
            timeBound := e.timeBound
            timeClosed := some s.clock }
        t.ntu.events.getLsbD 1 = true ∧ ∃ before later, t.bus.posted = before
          ++ [{ addr := s.orderAddr j + 0x20, data := part.bytes }, { addr := s.orderAddr j, data := [3] }] ++ later)
      ∧ (∀ b : Bench, (s.bench b).link.up = true → (t.bench b).awaited = none
        ∧ ((s.bench b).link.queue.length < 63 →
          BenchMsg.panelReset (s.bench b).staffing (s.bench b).picker
            ∈ (t.bench b).link.sending.toList ++ (t.bench b).link.queue)))

/-- The timed-sweep timer's expiry begins a timed sweep, or is dropped while a sweep is in flight, and restarts. From
01_the_plan_area.md R14.
The model's choices in it: log entries 3 and 34. -/
def Obligations.TimedSweepTimerBeginsASweep : Prop :=
  ∀ s : State,
    let timer : Option Nat := if s.live.sweepCode = 0 then none else some ((s.live.sweepCode + 1) * 5)
    (s.active = true → s.pau.sweepTimer ≠ none → s.pau.sweep = none → exec .timedSweepTimerExpiry s =
      .next (stage3 { s with pau := { s.pau with sweepTimer := timer, sweep := some { kind := .timed, stage := .starved } } }))
    ∧ (s.active = true → s.pau.sweepTimer ≠ none → s.pau.sweep ≠ none →
      exec .timedSweepTimerExpiry s = .next { s with pau := { s.pau with sweepTimer := timer } })
    ∧ (s.active = false ∨ s.pau.sweepTimer = none → exec .timedSweepTimerExpiry s = .next s)

/-- One second of the floor clock advances the clock, every running exposure record and every floor-second timer. From
13_run_drain_and_clear.md R190; 08_cold_chain_exposure.md R130.
The model's choices in it: log entries 3 and 4. -/
def Obligations.FloorClockSecond : Prop :=
  ∀ (s : State) (apart : List TimedEvent),
    (s.active = false → exec (.floorClockAdvance apart) s = .next s)
    ∧ (s.active = true →
      let t : State := { s with
        pau := { s.pau with floorClock := s.pau.floorClock + 1 }
        lnc := { s.lnc with calls := s.lnc.calls.map (fun c => { c with transit := c.transit.map (fun n => n - 1) }) }
        mga := { s.mga with merge := match s.mga.merge with
          | .tenure r left => .tenure r (left.map (fun n => n - 1))
          | m => m }
        exposures := s.exposures.map (fun r => { r with
          elapsed := min (r.elapsed + 1) 0xFFFFFFFF
          warnAt := s.live.warnPoint r.cls
          recallAt := s.live.recallPoint r.cls }) }
      exec (.floorClockAdvance apart) s =
        .next (settle ((t.secondEvents.filter (fun e => !apart.contains e)).foldl (fun u e => takeTimed e u) t)))

/-- A deadline passed, a warning, a recall and a ready wait that are due take their effect, a recall after the warning that
is
due with it and overdue while a return hold is in force; one that is not due changes nothing. From
04_orders_and_the_put_wall.md R69; 08_cold_chain_exposure.md R131, R132, R134; 05_calling_totes.md R76.
The model's choices in it: log entries 4 and 35. -/
def Obligations.TimedEventsWhenDue : Prop :=
  ∀ (s : State) (pos : PutPos) (card : Nat),
    let warned (r : Exposure) (u : State) : State :=
      countForTaking r.card r.seq (fun k => { k with exposureWarns := k.exposureWarns + 1 })
        (raise .exposure (portCue r.port .exposure (updateExposure r.card r.seq (fun x => { x with warned := true }) u)))
    let recalled (r : Exposure) (u : State) : State :=
      countForTaking r.card r.seq (fun k => { k with recalls := k.recalls + 1 })
        (raise .exposure (recallTaking r.card r.seq (updateExposure r.card r.seq (fun x => { x with recalled := true }) u)))
    (s.active = true → (s.position pos).state = .bound → (s.position pos).late = false →
      (s.position pos).deadline.toNat < s.pau.floorClock.toNat →
      exec (.deadlinePassed pos) s =
        .next (settle (raise .lateOrder { s with wall := s.wall.set pos { s.position pos with late := true } })))
    ∧ (s.lateDue pos = false → exec (.deadlinePassed pos) s = .next s)
    ∧ (∀ r, s.active = true → s.recordOf card = some r → r.warnDue = true →
        exec (.exposureWarning card) s = .next (settle (warned r s)))
    ∧ (∀ r, s.recordOf card = some r → r.warnDue = false → exec (.exposureWarning card) s = .next s)
    ∧ (∀ r, s.active = true → s.recordOf card = some r → r.recallDue = true →
        let u := recalled r (if r.warnDue then warned r s else s)
        let overdue := updateExposure r.card r.seq (fun x => { x with overdue := true }) u
        (s.mga.holdTimer = 0 → exec (.exposureRecall card) s = .next (settle u))
        ∧ (∀ c, s.mga.holdTimer ≠ 0 → overdue.taking r.card r.seq = some c →
            exec (.exposureRecall card) s = .next (settle (report
              { kind := .exposureOverdue, bench := some c.bench, port := some (portByte r.port), card := some r.card,
                tag := some c.tag } overdue)))
        ∧ (s.mga.holdTimer ≠ 0 → overdue.taking r.card r.seq = none →
            exec (.exposureRecall card) s = .next (settle overdue)))
    ∧ (∀ r, s.recordOf card = some r → r.recallDue = false → exec (.exposureRecall card) s = .next s)
    ∧ (s.recordOf card = none → exec (.exposureWarning card) s = .next s ∧ exec (.exposureRecall card) s = .next s)
    ∧ (∀ c, s.active = true → s.stagedCard card = some c → s.live.readyWait ≠ 0 →
        c.timeTaken.toNat + s.live.readyWait < s.pau.floorClock.toNat →
        exec (.readyWaitPasses card) s =
          .next (settle (if s.someAccepting c then s else finishStaged .orderAbsent .orderAbsent c s)))
    ∧ (∀ c, s.stagedCard card = some c →
        s.live.readyWait = 0 ∨ s.pau.floorClock.toNat ≤ c.timeTaken.toNat + s.live.readyWait →
        exec (.readyWaitPasses card) s = .next s)
    ∧ (s.stagedCard card = none → exec (.readyWaitPasses card) s = .next s)
    ∧ (s.active = false → exec (.deadlinePassed pos) s = .next s ∧ exec (.exposureWarning card) s = .next s
        ∧ exec (.exposureRecall card) s = .next s ∧ exec (.readyWaitPasses card) s = .next s)

/-- A busy refusal starts the resend gap or exhausts the call; the answer timer's expiry is one; the gap's end sends
CALL again. From 05_calling_totes.md R83, R84, R85, R89, Table 5-2; 10_the_grid_link.md R161.
The model's choices in it: log entries 3, 16 (that the bench of CALL_RETRY_EXHAUSTED is the call's card's bench is the
model's choice), 17 (the report after the DONE write and CARD_DONE) and 36. -/
def Obligations.RefusalsAndResends : Prop :=
  ∀ (s : State) (n : Half) (m : Nat) (c : Call) (reason : Byte),
    let gapped (x : Call) : Call := { x with
      state := .called, retries := min (x.retries + 1) 65535, timer := .gap (s.live.retryGap * 2) }
    let exhausted : Report := { kind := .callRetryExhausted, bench := some c.card.bench, port := some (portByte c.port),
                                card := some c.card.card, tag := some c.card.tag }
    (c.retries < 2 ^ (s.live.retryCode + 1) - 1 → busyRefusal c s = cancelIfDue c.number (putCall (gapped c) s))
    ∧ (2 ^ (s.live.retryCode + 1) - 1 ≤ c.retries → s.live.giveUp = true →
        busyRefusal c s = report exhausted (failCall c s))
    ∧ (2 ^ (s.live.retryCode + 1) - 1 ≤ c.retries → s.live.giveUp = false → busyRefusal c s =
        cancelIfDue c.number (if c.exhausted then putCall (gapped { c with exhausted := true }) s
          else report exhausted (putCall (gapped { c with exhausted := true }) s)))
    ∧ (s.findCall m = some c → s.active = true →
        (c.answerRuns = true → exec (.answerTimerExpiry m) s = .next (settle (busyRefusal c s)))
        ∧ (c.answerRuns = false → exec (.answerTimerExpiry m) s = .next s)
        ∧ (c.gapRuns = true → exec (.retryGapExpiry m) s = .next (settle
            (count (fun k => { k with retries := k.retries + 1 }) (gridHand (.call c.number c.port c.card.tag)
              (putCall { c with
                card := { c.card with callAttempts := min (c.card.callAttempts + 1) 65535 }
                timer := .answer 40 } s)))))
        ∧ (c.gapRuns = false → exec (.retryGapExpiry m) s = .next s))
    ∧ ((gridGood 3 s).active = true → (gridGood 3 s).findCall n.toNat = some c →
        let t := count (fun k => { k with refusals := k.refusals + 1 }) (gridGood 3 s)
        (c.state = .called ∨ c.state = .accepted →
          exec (.callRefuse n 1) s = .next (settle (busyRefusal c t))
          ∧ exec (.callRefuse n 2) s = .next (settle (failCall c t))
          ∧ exec (.callRefuse n 3) s = .next (settle (failCall c t)))
        ∧ (1 ≤ reason.toNat → reason.toNat ≤ 3 → c.state = .cancelling ∨ (c.state = .inquiring ∧ c.cancel ≠ none) →
          exec (.callRefuse n reason) s = .next (settle (confirmCancel c t)))
        ∧ (1 ≤ reason.toNat → reason.toNat ≤ 3 →
          c.state = .dispatched ∨ c.state = .uncertain ∨ (c.state = .inquiring ∧ c.cancel = none) →
          exec (.callRefuse n reason) s = .next (settle t)))

/-- The inquiry timer repeats INQUIRE up to the retry limit, then loses the call; a first transit expiry inquires, a
second loses it. From 05_calling_totes.md R86, R87, R89, R90.
The model's choices in it: log entries 3, 16 (that the bench of LOST_IN_TRANSIT is the call's card's bench is the model's
choice) and 17 (the report after the DONE write and CARD_DONE). -/
def Obligations.InquiryAndTransitTimers : Prop :=
  ∀ (s : State) (n : Nat) (c : Call), s.findCall n = some c → s.active = true →
    let lost := report { kind := .lostInTransit, bench := some c.card.bench, port := some (portByte c.port),
                         card := some c.card.card, tag := some c.card.tag }
      (count (fun k => { k with transitLosses := k.transitLosses + 1 })
        (returnCard (c.card.unpresented .lostInTransit .notPresented) (removeCall c.number s)))
    (c.inquiryRuns = true → c.inquiries ≤ 2 ^ (s.live.retryCode + 1) - 1 →
      exec (.inquiryTimerExpiry n) s = .next (settle (gridHand (.inquire c.number)
        (putCall { c with inquiries := min (c.inquiries + 1) 65535, timer := .inquiry 40 } s))))
    ∧ (c.inquiryRuns = true → 2 ^ (s.live.retryCode + 1) - 1 < c.inquiries →
      exec (.inquiryTimerExpiry n) s = .next (settle lost))
    ∧ (c.inquiryRuns = false → exec (.inquiryTimerExpiry n) s = .next s)
    ∧ (c.transit ≠ none → c.transitExpired = true → exec (.transitTimeout n) s = .next (settle lost))
    ∧ (c.transit ≠ none → c.transitExpired = false → c.state = .called ∨ c.state = .accepted ∨ c.state = .dispatched →
      exec (.transitTimeout n) s = .next (settle (gridHand (.inquire c.number) (putCall { c with
        transitExpired := true, transit := none, state := .inquiring, inquiries := 1, timer := .inquiry 40 } s))))
    ∧ (c.transit ≠ none → c.transitExpired = false →
      c.state = .uncertain ∨ c.state = .inquiring ∨ c.state = .cancelling →
      exec (.transitTimeout n) s = .next (settle (putCall { c with transitExpired := true, transit := none } s)))
    ∧ (c.transit = none → exec (.transitTimeout n) s = .next s)

/-- A tenure timeout opens the merge and marks its holder; a swing's end stands at its target or opens; a return hold's
end releases. From 09_the_return_merge.md R145, R146, R149, R150; 06_port_lanes_and_pick_confirmation.md R111.
The model's choices in it: log entries 3 and 22. -/
def Obligations.MergeTimers : Prop :=
  ∀ (s : State) (r : Requester) (left : Nat) (gone : Bool), s.active = true →
    let parked : Option Requester := match s.live.parking with
      | 0 => some r
      | 1 => some .recirc
      | _ => none
    let opened : State := { s with mga := { s.mga with merge := .idle, parked := parked } }
    let counted (t : State) : State := count (fun k => { k with tenureTimeouts := k.tenureTimeouts + 1 }) t
    (s.mga.merge = .tenure r (some left) → r = .recirc → exec .tenureTimeout s = .next (settle (counted
        (report { kind := .tenureTimeout } { opened with mga := { opened.mga with recircTimedOut := true } }))))
    ∧ (∀ (p : Port) (e : Entry), s.mga.merge = .tenure r (some left) → r = .port p → s.head p = some e →
        exec .tenureTimeout s = .next (settle (counted
          (report { kind := .tenureTimeout, bench := portBench p, port := some (portByte p),
                    card := e.card.map (fun c => c.card), tag := some e.tag }
            (match e.card with
              | some c => returnCard { c with stuck := true } (setHead p { e with card := none, state := .stuck } opened)
              | none => setHead p { e with card := none, state := .stuck } opened)))))
    ∧ (s.mga.merge = .swinging r left gone → exec .gateSwingEnd s =
        .next (settle (if gone then opened else { s with mga := { s.mga with merge := .swung r } })))
    ∧ (s.mga.holdTimer ≠ 0 → exec .returnHoldEnd s = .next (settle { s with mga := { s.mga with holdTimer := 0 } }))
    ∧ (s.mga.holdTimer = 0 → exec .returnHoldEnd s = .next s)
    ∧ (s.mga.merge = .idle ∨ s.mga.merge = .swung r ∨ s.mga.merge = .tenure r none →
        exec .tenureTimeout s = .next s ∧ exec .gateSwingEnd s = .next s)
    ∧ (s.mga.merge = .swinging r left gone → exec .tenureTimeout s = .next s)
    ∧ (s.mga.merge = .tenure r (some left) → exec .gateSwingEnd s = .next s)

/-- A refresh expiry sends a fresh DISPATCH_HOLD while the port wants one; a hold expiry ends a hold that lapses. From
10_the_grid_link.md R165, R166.
The model's choices in it: log entry 3. -/
def Obligations.DispatchHoldTimers : Prop :=
  ∀ (s : State) (p : Port),
    (s.active = true → s.glc.link.up = true → (s.hold p).refresh ≠ none → (s.hold p).wants = true →
      ∃ t, exec (.dispatchHoldRefresh p) s = .next t
        ∧ t.hold p = { holding := true, refresh := some (s.live.holdRefresh * 2), expiry := some (s.live.holdQuantum * 2),
                       wants := true }
        ∧ (∀ q : Port, q ≠ p → t.hold q = s.hold q) ∧ t.ntu.counters.dispatchHolds = s.ntu.counters.dispatchHolds + 1
        ∧ t.glc.link = (gridHand (.dispatchHold p s.live.holdQuantum) s).glc.link
        ∧ { t with glc := s.glc, ntu := s.ntu } = s ∧ t.ntu = { s.ntu with counters := t.ntu.counters })
    ∧ (s.active = true → (s.hold p).expiry ≠ none → (s.hold p).wants = false →
      exec (.holdExpiry p) s = .next { s with glc := { s.glc with
        holds := s.glc.holds.set p { holding := false, refresh := none, expiry := none, wants := false } } })
    ∧ (s.active = false ∨ s.glc.link.up = false ∨ (s.hold p).refresh = none ∨ (s.hold p).wants = false →
      exec (.dispatchHoldRefresh p) s = .next s)
    ∧ (s.active = false ∨ (s.hold p).expiry = none ∨ (s.hold p).wants = true → exec (.holdExpiry p) s = .next s)

/-- The Grid Link's fall empties its queue, raises GRID_LINK, puts every call in UNCERTAIN and lapses every hold. From
10_the_grid_link.md R156, R159, R162, R167.
The model's choices in it: log entry 3. -/
def Obligations.GridLinkDownPutsCallsInDoubt : Prop :=
  ∀ s : State,
    (s.glc.link.up = false → exec .gridLinkDown s = .next s)
    ∧ (s.glc.link.up = true → s.active = false → exec .gridLinkDown s = .next (raise .gridLink { s with
        glc := { s.glc with link := { s.glc.link with up := false, queue := [] } } }))
    ∧ (s.glc.link.up = true → s.active = true → ∃ t, exec .gridLinkDown s = .next t
      ∧ t.glc.link = { s.glc.link with up := false, queue := [] } ∧ t.ntu.events.getLsbD 8 = true
      ∧ t.lnc.calls = s.lnc.calls.map (fun c => { c with state := .uncertain, timer := .none })
      ∧ (∀ p : Port, (t.hold p).holding = false ∧ (t.hold p).refresh = none ∧ (t.hold p).expiry = none)
      ∧ t.lnc.lanes = s.lnc.lanes ∧ t.mga.merge = s.mga.merge)

/-- A link sends its oldest message when a frame ends, and LINE_CHECK when idle; each frame begun restarts the idle
timer. From 10_the_grid_link.md R156, R157; 11_bench_links_and_staffing.md R171, R172.
The model's choices in it: log entries 3 and 14. -/
def Obligations.LinkSendingOrder : Prop :=
  ∀ (s : State) (b : Bench) (g : GridMsg) (m : BenchMsg) (gs : List GridMsg) (ms : List BenchMsg),
    let gl := s.glc.link
    let bl := (s.bench b).link
    let grid (l : Link GridMsg) : Out := .next { s with glc := { s.glc with link := l } }
    let panel (l : Link BenchMsg) : Out := .next { s with blc := s.blc.set b { s.bench b with link := l } }
    (gl.sending = none → exec .gridIdleLineCheck s = grid { gl with sending := some .lineCheck, idle := 0 })
    ∧ (gl.sending ≠ none → exec .gridIdleLineCheck s = grid { gl with lineCheckDue := true })
    ∧ (gl.sending ≠ none → gl.queue = g :: gs →
        exec .gridFrameSent s = grid { gl with queue := gs, sending := some g, idle := 0, lineCheckDue := false })
    ∧ (gl.sending ≠ none → gl.queue = [] → gl.lineCheckDue = true →
        exec .gridFrameSent s = grid { gl with sending := some .lineCheck, idle := 0, lineCheckDue := false })
    ∧ (gl.sending ≠ none → gl.queue = [] → gl.lineCheckDue = false →
        exec .gridFrameSent s = grid { gl with sending := none })
    ∧ (gl.sending = none → exec .gridFrameSent s = .next s)
    ∧ (bl.sending = none → exec (.benchIdleLineCheck b) s = panel { bl with sending := some .lineCheck, idle := 0 })
    ∧ (bl.sending ≠ none → exec (.benchIdleLineCheck b) s = panel { bl with lineCheckDue := true })
    ∧ (bl.sending ≠ none → bl.queue = m :: ms →
        exec (.benchFrameSent b) s = panel { bl with queue := ms, sending := some m, idle := 0, lineCheckDue := false })
    ∧ (bl.sending ≠ none → bl.queue = [] → bl.lineCheckDue = true →
        exec (.benchFrameSent b) s = panel { bl with sending := some .lineCheck, idle := 0, lineCheckDue := false })
    ∧ (bl.sending ≠ none → bl.queue = [] → bl.lineCheckDue = false →
        exec (.benchFrameSent b) s = panel { bl with sending := none })
    ∧ (bl.sending = none → exec (.benchFrameSent b) s = .next s)
    ∧ (gl.sending = none → gl.enqueue g = { gl with sending := some g, idle := 0 })
    ∧ (gl.sending ≠ none → gl.enqueue g = { gl with queue := gl.queue ++ [g] })

/-- A frame that times out or fails a check, and agrees with the bytes the assembler holds, is dropped, counted once, and hunted
again from the byte after its sync byte, in its own bytes and those held behind it; bytes that are no such frame change nothing.
From 10_the_grid_link.md R158; 11_bench_links_and_staffing.md R171.
The model's choices in it: log entry 13. -/
def Obligations.DroppedFramesAreCounted : Prop :=
  ∀ (s : State) (b : Bench) (bytes : List Byte),
    let gh := s.glc.link.held
    let bh := (s.bench b).link.held
    let rest (held : List Byte) : List Byte := (bytes.tail ++ held.drop bytes.length).dropWhile (fun x => x != 0xC5)
    let grid : Out := .next { s with
      glc := { s.glc with link := { s.glc.link with held := rest gh } }
      ntu := { s.ntu with counters := { s.ntu.counters with gridFrameErrors := s.ntu.counters.gridFrameErrors + 1 } } }
    let panel : Out := .next { s with
      blc := s.blc.set b { s.bench b with link := { (s.bench b).link with held := rest bh } }
      ntu := { s.ntu with counters := { s.ntu.counters with
        benchFrameErrors := s.ntu.counters.benchFrameErrors.set b (s.ntu.counters.benchFrameErrors[b] + 1) } } }
    let gv := frameVerdict gridPayloadLength bytes
    let bv := frameVerdict panelPayloadLength bytes
    (gv = .incomplete → gh <+: bytes → exec (.gridFrameGapTimeout bytes) s = grid)
    ∧ (gv ≠ .incomplete ∨ ¬gh <+: bytes → exec (.gridFrameGapTimeout bytes) s = .next s)
    ∧ (gv = .dropped → bytes <+: gh ∨ gh <+: bytes → exec (.gridFrameError bytes) s = grid)
    ∧ (gv ≠ .dropped ∨ ¬(bytes <+: gh ∨ gh <+: bytes) → exec (.gridFrameError bytes) s = .next s)
    ∧ (bv = .incomplete → bh <+: bytes → exec (.benchFrameGapTimeout b bytes) s = panel)
    ∧ (bv ≠ .incomplete ∨ ¬bh <+: bytes → exec (.benchFrameGapTimeout b bytes) s = .next s)
    ∧ (bv = .dropped → bytes <+: bh ∨ bh <+: bytes → exec (.benchFrameError b bytes) s = panel)
    ∧ (bv ≠ .dropped ∨ ¬(bytes <+: bh ∨ bh <+: bytes) → exec (.benchFrameError b bytes) s = .next s)

/-- A LINE_CHECK restarts the silence timer, and the assembler hunts on behind its CRC; on a DOWN link it brings the link UP
with its actions done in full. From 10_the_grid_link.md R157, R158, R159, R163, R167; 11_bench_links_and_staffing.md R171,
R178.
The model's choices in it: log entry 13. -/
def Obligations.LineChecksKeepLinksUp : Prop :=
  ∀ (s : State) (b : Bench),
    let behind (held : List Byte) : List Byte := (held.drop 5).dropWhile (fun x => x != 0xC5)
    let gl : Link GridMsg := { s.glc.link with silence := 0, held := behind s.glc.link.held }
    let bl : Link BenchMsg := { (s.bench b).link with silence := 0, held := behind (s.bench b).link.held }
    let up := raise .gridLink { s with glc := { s.glc with link := { gl with up := true } } }
    let benchUp := raise .benchLink { s with blc := s.blc.set b { s.bench b with link := { bl with up := true } } }
    (s.glc.link.up = true → exec .gridLineCheck s = .next { s with glc := { s.glc with link := gl } })
    ∧ (s.glc.link.up = false → s.active = false → exec .gridLineCheck s = .next up)
    ∧ (s.glc.link.up = false → s.active = true → exec .gridLineCheck s = .next (settle (resumeHolds
        ((byNumber (s.lnc.calls.filter (fun c => c.state == .uncertain))).foldl (fun t c => gridHand (.inquire c.number)
          (putCall { c with state := .inquiring, inquiries := 1, timer := .inquiry 40 } t)) up))))
    ∧ ((s.bench b).link.up = true → exec (.benchLineCheck b) s = .next { s with
        blc := s.blc.set b { s.bench b with link := bl } })
    ∧ ((s.bench b).link.up = false → exec (.benchLineCheck b) s = .next (setAwaited b none
        (benchHand b (.panelReset (s.bench b).staffing (s.bench b).picker) benchUp)))

/-- Outside RUNNING and DRAINING a grid message counts for the link alone; one naming an unused call, an absent port or a bad
code is reported. From 10_the_grid_link.md R160, R161; 06_port_lanes_and_pick_confirmation.md R93. -/
def Obligations.GridMessagesDiscardedOrReported : Prop :=
  ∀ (s : State) (n q : Half) (x port : Byte) (tag : Word),
    let calls : List Instr := [.callAccept n, .callRefuse n x, .dispatched n, .callStatus n x]
    let totes : List Instr := [.arrived port tag, .docked port tag, .departed port tag]
    let taken (c : Instr) : State := gridGood (gridPayload c) s
    (∀ c ∈ calls ++ totes ++ [.recircRequest, .recircClear, .returnHold q], (taken c).active = false →
      exec c s = .next (taken c))
    ∧ (∀ c ∈ calls, (taken c).active = true → (taken c).findCall n.toNat = none →
        exec c s = .next (report { kind := .gridProtocol } (taken c)))
    ∧ (∀ c ∈ totes, (taken c).active = true →
        10 ≤ port.toNat ∨ (∃ p : Port, p.val = port.toNat ∧ (taken c).st.portPresent p = false) →
        exec c s = .next (report { kind := .gridProtocol, port := some port, tag := some tag } (taken c)))
    ∧ ((gridGood 3 s).active = true →
        (x.toNat = 0 ∨ 4 ≤ x.toNat →
          exec (.callRefuse n x) s = .next (report { kind := .gridProtocol } (gridGood 3 s)))
        ∧ (x.toNat = 0 ∨ 5 ≤ x.toNat →
          exec (.callStatus n x) s = .next (report { kind := .gridProtocol } (gridGood 3 s))))

/-- CALL_ACCEPT, DISPATCHED and CALL_STATUS move a call by Table 5-2. From 05_calling_totes.md R82, R87, R89, Table 5-2.
The model's choices in it: log entry 36 (the reason of a cancel due for two reasons). -/
def Obligations.CallAnswersMoveTheCall : Prop :=
  ∀ (s : State) (n : Half) (c : Call) (status : Byte),
    let inCancel := c.state = .cancelling ∨ (c.state = .inquiring ∧ c.cancel ≠ none)
    let waits (x : Call) : Call := { x with transit := some (x.transit.getD s.live.transitTimeout) }
    (let t := gridGood 2 s
     t.active = true → t.findCall n.toNat = some c →
      (c.state = .called →
        exec (.callAccept n) s = .next (settle (putCall { c with state := .accepted, timer := .none } t)))
      ∧ (c.state ≠ .called → exec (.callAccept n) s = .next (settle t))
      ∧ (c.state = .called ∨ c.state = .accepted →
          exec (.dispatched n) s = .next (settle (seeDispatch { c with state := .dispatched, timer := .none } t)))
      ∧ (c.state = .inquiring → c.cancel = none → exec (.dispatched n) s = .next (settle (seeDispatch c t)))
      ∧ (inCancel →
          exec (.dispatched n) s = .next (settle (seeDispatch (waits { c with state := .dispatched, timer := .none }) t)))
      ∧ (c.state = .dispatched ∨ c.state = .uncertain → exec (.dispatched n) s = .next (settle t)))
    ∧ (let t := gridGood 3 s
     t.active = true → t.findCall n.toNat = some c →
      (c.state = .inquiring → c.cancel = none →
        (c.dispatchSeen = false → exec (.callStatus n 1) s =
          .next (settle (cancelIfDue c.number (putCall (waits { c with state := .accepted, timer := .none }) t))))
        ∧ (c.dispatchSeen = true → exec (.callStatus n 1) s =
          .next (settle (seeDispatch (waits { c with state := .dispatched, timer := .none }) t)))
        ∧ exec (.callStatus n 2) s = .next (settle (seeDispatch (waits { c with state := .dispatched, timer := .none }) t))
        ∧ exec (.callStatus n 3) s = .next (settle (failCall c t))
        ∧ exec (.callStatus n 4) s = .next (settle (failCall c t)))
      ∧ (inCancel →
          exec (.callStatus n 1) s = .next (settle (gridHand (.callCancel c.number) (putCall (waits { c with
            state := .cancelling, inquiries := min (c.inquiries + 1) 65535, timer := .inquiry 40 }) t)))
          ∧ exec (.callStatus n 2) s =
            .next (settle (seeDispatch (waits { c with state := .dispatched, timer := .none }) t))
          ∧ exec (.callStatus n 3) s = .next (settle (confirmCancel c t))
          ∧ exec (.callStatus n 4) s = .next (settle (confirmCancel c t)))
      ∧ (1 ≤ status.toNat → status.toNat ≤ 4 →
          c.state = .called ∨ c.state = .accepted ∨ c.state = .dispatched ∨ c.state = .uncertain →
          exec (.callStatus n status) s = .next (settle t)))

/-- ARRIVED is refused when repeated or over the lane, joins its call's lane, is adopted, misrouted, or a stranger. From
06_port_lanes_and_pick_confirmation.md R93, R94, R95, R96, R97, Table 6-2; 03_presentation_cards_and_bench_chains.md R34,
R50.
The model's choices in it: log entries 12, 16 (the bench of MISROUTE and of its count is the card's bench field, also for a
TWIN card), 17 and 32 (LATE_ARRIVAL of a misrouted tote). -/
def Obligations.ArrivedMatchesItsCall : Prop :=
  ∀ (s : State) (port : Byte) (p : Port) (tag : Word),
    let t := gridGood 6 s
    t.active = true → p.val = port.toNat → t.st.portPresent p = true →
    let repeated := (t.lane p).any (fun e => e.tag == tag) = true
    let carried (c : Call) (kind : EntryKind) : CardCtx := { c.card with
      timeArrived := some t.clock
      lateArrival := c.card.lateArrival || c.transitExpired
      adopted := c.card.adopted || kind == .adopted }
    let joined (c : Call) (kind : EntryKind) : Entry :=
      { tag := c.card.tag, kind := kind, state := .queued, card := some (carried c kind) }
    (repeated → exec (.arrived port tag) s =
      .next (report { kind := .gridProtocol, port := some port, tag := some tag } t))
    ∧ (¬repeated → t.st.laneDepth[p] ≤ (t.lane p).length → exec (.arrived port tag) s =
      .next (report { kind := .laneOverrun, bench := portBench p, port := some port, tag := some tag } t))
    ∧ (¬repeated → (t.lane p).length < t.st.laneDepth[p] →
      (∀ c, t.arrivalCall p tag = some c → c.port = p → c.dispatchSeen = true → exec (.arrived port tag) s =
        .next (settle (moveExposure c.card p (setLane p (t.lane p ++ [joined c .called]) (removeCall c.number t)))))
      ∧ (∀ c, t.arrivalCall p tag = some c → c.port ≠ p → t.mayUse c.card c.port = true → t.mayUse c.card p = true →
          c.dispatchSeen = true → exec (.arrived port tag) s =
        .next (settle (moveExposure c.card p (setLane p (t.lane p ++ [joined c .adopted]) (removeCall c.number t)))))
      ∧ (∀ c, t.arrivalCall p tag = some c → c.dispatchSeen = false →
          c.port = p ∨ (t.mayUse c.card c.port = true ∧ t.mayUse c.card p = true) →
          ∃ e u, u = moveExposure c.card p (setLane p (t.lane p ++ [e]) (removeCall c.number t))
            ∧ e = joined c (if c.port = p then .called else .adopted)
            ∧ exec (.arrived port tag) s = .next (settle (e.card.elim u (fun k => startExposure k p u))))
      ∧ (∀ c, t.arrivalCall p tag = some c → c.port ≠ p → (t.mayUse c.card c.port && t.mayUse c.card p) = false →
          let cut : CardCtx := { c.card with
            result := some .cut
            misrouted := true
            lateArrival := c.card.lateArrival || c.transitExpired
            timeArrived := some t.clock
            lines := c.card.lines.map (fun l =>
              { l with picked := 0, remaining := 0, shortfall := l.qty, result := some .notPresented }) }
          let told := countBench c.card.bench (fun k => { k with misroutes := k.misroutes + 1 }) (report
            { kind := .misroute, bench := some c.card.bench, port := some port, card := some c.card.card,
              tag := some c.card.tag } (returnCard cut (removeCall c.number t)))
          exec (.arrived port tag) s = .next (settle (setLane p (told.lane p ++ [stranger c.card.tag]) told)))
      ∧ (t.arrivalCall p tag = none → exec (.arrived port tag) s =
          .next (settle (lookup tag (.arrival p) (setLane p (t.lane p ++ [stranger tag]) t)))))

/-- DOCKED ends a stranger, recalled, withdrawn or closed head unpresented, presents a staffed one, and lets another
wait. From 06_port_lanes_and_pick_confirmation.md R98, R99, R106; 07_the_shared_port.md R120, R121. -/
def Obligations.DockedPresentsOrEndsTheHead : Prop :=
  ∀ (s : State) (port : Byte) (p : Port) (tag : Word),
    let t := gridGood 6 s
    t.active = true → p.val = port.toNat → t.st.portPresent p = true →
    (∀ e, t.head p = some e → e.tag = tag → e.state = .queued →
      (e.card = none → exec (.docked port tag) s = .next (settle { t with
        lnc := { t.lnc with lanes := t.lnc.lanes.set p ({ e with state := .ended } :: (t.lane p).tail) }
        mga := { t.mga with
          requests := t.mga.requests ++ [{ port := p, tag := tag, recalled := false, frozen := false }] } }))
      ∧ (∀ c, e.card = some c →
        (c.recalled = true →
          exec (.docked port tag) s = .next (settle (endWith p .exposureRecall .recalled true t)))
        ∧ (c.recalled = false → c.withdrawn = true →
          exec (.docked port tag) s = .next (settle (endWith p .withdrawn .withdrawn false t)))
        ∧ (c.recalled = false → c.withdrawn = false → (∀ b ∈ c.benches, (t.bench b).staffing = .closed) →
          exec (.docked port tag) s = .next (settle (endWith p .benchClosed .benchClosed false t)))
        ∧ (c.recalled = false → c.withdrawn = false → (∃ b ∈ c.benches, (t.bench b).staffing = .staffed) →
          exec (.docked port tag) s = .next (settle (settleEntry p (questionHead p (fun _ => true)
            (countBench c.bench (fun k => { k with presentations := k.presentations + 1 })
              (setHead p { e with
                card := some { c with portPresented := some p, timePresented := some t.clock }
                state := .presenting } t))))))
        ∧ (c.recalled = false → c.withdrawn = false → (∃ b ∈ c.benches, (t.bench b).staffing = .onBreak) →
            (∀ b ∈ c.benches, (t.bench b).staffing ≠ .staffed) →
          exec (.docked port tag) s = .next (settle (setHead p { e with state := .waitingBench } t)))))
    ∧ (∀ e, t.head p = some e → e.tag = tag → e.state ≠ .queued → exec (.docked port tag) s = .next t)
    ∧ ((∀ e, t.head p = some e → e.tag ≠ tag) → exec (.docked port tag) s =
        .next (report { kind := .gridProtocol, port := some port, tag := some tag } t))

/-- DEPARTED takes a RELEASING, ENDED or STUCK head out of its lane, returns its card, and ends its tenure or its
request. From 06_port_lanes_and_pick_confirmation.md R110, R112; 09_the_return_merge.md R146, R148. -/
def Obligations.DepartedEndsTheHead : Prop :=
  ∀ (s : State) (port : Byte) (p : Port) (tag : Word),
    let t := gridGood 6 s
    t.active = true → p.val = port.toNat → t.st.portPresent p = true →
    let gone (e : Entry) : State := match e.card with
      | some c => returnCard c (setLane p (t.lane p).tail t)
      | none => setLane p (t.lane p).tail t
    let protocol : Report := { kind := .gridProtocol, port := some port, tag := some tag }
    (∀ e, t.head p = some e → e.tag = tag → e.state = .releasing →
      exec (.departed port tag) s = .next (settle (endTenure (.port p) (gone e))))
    ∧ (∀ e, t.head p = some e → e.tag = tag → e.state = .stuck → exec (.departed port tag) s = .next (settle (gone e)))
    ∧ (∀ e, t.head p = some e → e.tag = tag → e.state = .ended →
      exec (.departed port tag) s = .next (settle (report protocol (withdrawRequest p (gone e)))))
    ∧ (∀ e, t.head p = some e → e.tag = tag → e.state = .queued ∨ e.state = .presenting ∨ e.state = .waitingBench →
      exec (.departed port tag) s = .next (report protocol t))
    ∧ ((∀ e, t.head p = some e → e.tag ≠ tag) → exec (.departed port tag) s = .next (report protocol t))

/-- RECIRC_REQUEST sets the flag, RECIRC_CLEAR ends the tenure, clears the mark or the flag, RETURN_HOLD loads its
timer. From 09_the_return_merge.md R141, R148, R150. -/
def Obligations.RecirculationAndReturnHoldMessages : Prop :=
  ∀ (s : State) (q : Half),
    (let t := gridGood 0 s
     t.active = true →
      exec .recircRequest s = .next (settle { t with mga := { t.mga with recircFlag := true } })
      ∧ (t.mga.merge.holder = some .recirc → exec .recircClear s = .next (settle (openMerge .recirc t)))
      ∧ (t.mga.merge.holder ≠ some .recirc → t.mga.recircTimedOut = true →
          exec .recircClear s = .next { t with mga := { t.mga with recircTimedOut := false } })
      ∧ (t.mga.merge.holder ≠ some .recirc → t.mga.recircTimedOut = false → t.mga.recircFlag = true →
          exec .recircClear s =
            .next (settle (withdrawTarget .recirc { t with mga := { t.mga with recircFlag := false } })))
      ∧ (t.mga.merge.holder ≠ some .recirc → t.mga.recircTimedOut = false → t.mga.recircFlag = false →
          exec .recircClear s = .next (report { kind := .gridProtocol } t)))
    ∧ (let t := gridGood 2 s
       let u := count (fun k => { k with returnHolds := k.returnHolds + 1 }) t
       t.active = true →
       (t.live.holdReaction = true → exec (.returnHold q) s =
          .next (settle { u with mga := { t.mga with holdTimer := q.toNat * 2 } }))
       ∧ (t.live.holdReaction = false → exec (.returnHold q) s = .next u))

/-- A Bench Link's fall empties its queue, clears the awaited message, raises BENCH_LINK and closes its bench. From
11_bench_links_and_staffing.md R172, R175, R176, R177.
The model's choices in it: log entries 3, 17, 35 and 39 (the order of the cancels of one event). -/
def Obligations.BenchLinkDownClosesTheBench : Prop :=
  ∀ (s : State) (b : Bench),
    let down := raise .benchLink { s with blc := s.blc.set b { s.bench b with
      link := { (s.bench b).link with up := false, queue := [] }, awaited := none } }
    ((s.bench b).link.up = false → exec (.benchLinkDown b) s = .next s)
    ∧ ((s.bench b).link.up = true → (s.bench b).staffing = .closed → exec (.benchLinkDown b) s = .next down)
    ∧ ((s.bench b).link.up = true → (s.bench b).staffing ≠ .closed →
        exec (.benchLinkDown b) s = .next (settle (changeStaffing b .closed 0 down))
        ∧ ((changeStaffing b .closed 0 down).bench b).staffing = .closed
        ∧ ((changeStaffing b .closed 0 down).bench b).picker = 0
        ∧ (changeStaffing b .closed 0 down).ntu.events.getLsbD 6 = true)

/-- A panel message takes a ticket and is refused BUSY, NOT_ENABLED, OUT_OF_RANGE or NOT_STAFFED by the first test that
applies. From 11_bench_links_and_staffing.md R173, R174, Table 11-3, Table 11-4. -/
def Obligations.PanelMessagesRefusedInOrder : Prop :=
  ∀ (s : State) (i : Instr) (m : PanelFields), panelFields i = some m →
    let b := m.bench
    let t := ticketed b m.ty s
    let refused (r : Reason) : Out := .next (benchHand b (.answer (t.bench b).lastTicket m.ty m.port m.p r) t)
    let bars := (m.ty = .place ∨ m.ty = .full) ∧ (t.bench b).staffing = .closed
      ∨ (m.ty = .pick ∨ m.ty = .short ∨ m.ty = .toteDone) ∧ (t.bench b).staffing ≠ .staffed
    (∀ w, (t.bench b).awaited = some w → ¬(m.ty = .remove ∧ w.ty = .place ∧ w.p = m.p) → exec i s = refused .busy)
    ∧ ((t.bench b).awaited = none →
      (t.pau.runState = .faulted → exec i s = refused .busy)
      ∧ (t.pau.runState ≠ .faulted → t.st.benchEnabled b = false → exec i s = refused .notEnabled)
      ∧ (t.pau.runState ≠ .faulted → t.st.benchEnabled b = true → m.inRange = false → exec i s = refused .outOfRange)
      ∧ (t.pau.runState ≠ .faulted → t.st.benchEnabled b = true → m.inRange = true → bars →
          exec i s = refused .notStaffed))

/-- SIGN_ON, SIGN_OFF, BREAK and BACK move the bench between CLOSED, STAFFED and BREAK, answered ACCEPT after the
change. From 11_bench_links_and_staffing.md R174, R175, R176.
The model's choices in it: log entries 35 (the order of lights and ports) and 39 (the order of the cancels of one event). -/
def Obligations.StaffingMessagesChangeTheBench : Prop :=
  ∀ (s : State) (b : Bench) (picker : Half),
    let on := panelState { bench := b, ty := .signOn, port := 0xFF, p := 0xFF, inRange := picker != 0 } s
    let off := panelState { bench := b, ty := .signOff, port := 0xFF, p := 0xFF, inRange := true } s
    let brk := panelState { bench := b, ty := .breakOff, port := 0xFF, p := 0xFF, inRange := true } s
    let back := panelState { bench := b, ty := .back, port := 0xFF, p := 0xFF, inRange := true } s
    let changed (new : Staffing) (k : Half) (t : State) : Out := .next (settle (answer b .accept (changeStaffing b new k t)))
    (s.panelTaken { bench := b, ty := .signOn, port := 0xFF, p := 0xFF, inRange := picker != 0 } →
      ((on.bench b).staffing = .closed → exec (.signOn b picker) s = changed .staffed picker on)
      ∧ ((on.bench b).staffing ≠ .closed → exec (.signOn b picker) s = .next (answer b .wrongState on)))
    ∧ (s.panelTaken { bench := b, ty := .signOff, port := 0xFF, p := 0xFF, inRange := true } →
      ((off.bench b).staffing ≠ .closed → exec (.signOff b) s = changed .closed 0 off)
      ∧ ((off.bench b).staffing = .closed → exec (.signOff b) s = .next (answer b .wrongState off)))
    ∧ (s.panelTaken { bench := b, ty := .breakOff, port := 0xFF, p := 0xFF, inRange := true } →
      ((brk.bench b).staffing = .staffed → exec (.breakOff b) s = changed .onBreak (brk.bench b).picker brk)
      ∧ ((brk.bench b).staffing ≠ .staffed → exec (.breakOff b) s = .next (answer b .wrongState brk)))
    ∧ (s.panelTaken { bench := b, ty := .back, port := 0xFF, p := 0xFF, inRange := true } →
      ((back.bench b).staffing = .onBreak → exec (.back b) s = changed .staffed (back.bench b).picker back)
      ∧ ((back.bench b).staffing ≠ .onBreak → exec (.back b) s = .next (answer b .wrongState back)))
    ∧ ∀ (t : State) (new : Staffing) (k : Half),
      ((changeStaffing b new k t).bench b).staffing = new ∧ ((changeStaffing b new k t).bench b).picker = k
      ∧ (changeStaffing b new k t).ntu.events.getLsbD 6 = true

/-- A PLACE is answered BUSY outside RUNNING and DRAINING, OCCUPIED or BUSY at a used position, and begins a binding at
a free one. R57. -/
def Obligations.PlaceIsTakenByItsPosition : Prop :=
  ∀ (s : State) (b : Bench) (i : Fin 16) (p : Byte) (tag : Word), p.toNat = i.val →
    let m : PanelFields := { bench := b, ty := .place, port := 0xFF, p := p, inRange := decide (p.toNat < 16) }
    let t := panelState m s
    let q : PutPos := putPos b i
    q.val = 16 * b.val + p.toNat
    ∧ (((ticketed b .place s).bench b).awaited = none → s.pau.runState = .faulted → exec (.place b p tag) s = .next
        (benchHand b (.answer ((ticketed b .place s).bench b).lastTicket .place 0xFF p .busy) (ticketed b .place s)))
    ∧ (s.panelTaken m → (∀ r, (answer b r t).position q = s.position q)
      ∧ (t.active = false → exec (.place b p tag) s = .next (answer b .busy t))
      ∧ (t.active = true → (t.position q).state ≠ .empty → exec (.place b p tag) s = .next (answer b .occupied t))
      ∧ (t.active = true → (t.position q).state = .empty → (t.position q).stale = true →
          exec (.place b p tag) s = .next (answer b .busy t))
      ∧ (t.active = true → (t.position q).state = .empty → (t.position q).stale = false →
          exec (.place b p tag) s = .next (settle (lookup tag (.place q) { t with
            wall := t.wall.set q { Position.empty with state := .binding, step := .lookup, scanned := tag } }))))

/-- A REMOVE of a BOUND position closes its order REMOVED_EARLY and reports it, of a COMPLETE, FULL or CLOSING one closes it
for
that reason, of a BINDING one abandons the binding, of an EMPTY one changes nothing; a REMOVE over the awaited PLACE of its
position answers the PLACE CANCELLED first. From 04_orders_and_the_put_wall.md R61, R66, R67, R68;
11_bench_links_and_staffing.md R173, R174.
The model's choices in it: log entries 26 (the ANSWER after the event's lights and before the settling) and 35 (the order of
lights and ports). -/
def Obligations.RemoveEndsABinding : Prop :=
  ∀ (s : State) (b : Bench) (i : Fin 16) (p : Byte) (j : Nat), p.toNat = i.val →
    let m : PanelFields := { bench := b, ty := .remove, port := 0xFF, p := p, inRange := decide (p.toNat < 16) }
    let q : PutPos := putPos b i
    let outcomes (t : State) : Prop :=
      let e := t.position q
      let written (reason : CloseReason) (u : State) : State :=
        let part : OrderPart :=
          { reason := reason
            pos := q
            late := e.late
            linesCompleted := e.linesCompleted
            unitsPut := e.unitsPut
            timeBound := e.timeBound
            timeClosed := some t.clock }
        raise .orderClosed (post (u.orderAddr j) [3] (post (u.orderAddr j + 0x20) part.bytes
          (forgetOrderFlags q { u with wall := u.wall.set q Position.empty })))
      (e.state = .bound → e.order = some j → exec (.remove b p) s = .next (settle (answer b .accept
        (report { kind := .removedEarly, bench := some b, order := some j, tag := some e.scanned }
          (written .removedEarly (withdrawAcceptance j .orderAbsent t))))))
      ∧ (e.state = .complete → e.order = some j →
          exec (.remove b p) s = .next (settle (answer b .accept (written .complete t))))
      ∧ (e.state = .full → e.order = some j → exec (.remove b p) s = .next (settle (answer b .accept (written .full t))))
      ∧ (e.state = .closing → e.order = some j →
          exec (.remove b p) s = .next (settle (answer b .accept (written .closeRequested t))))
      ∧ (e.state = .binding → exec (.remove b p) s = .next (settle (answer b .accept
          { t with wall := t.wall.set q { Position.empty with stale := true } })))
      ∧ (e.state = .empty → exec (.remove b p) s = .next (settle (answer b .accept t)))
    let u := ticketed b .remove s
    let ended := answer b .cancelled u
    (s.panelTaken m → outcomes (panelState m s))
    ∧ (∀ w, (u.bench b).awaited = some w → w.ty = .place → w.p = p →
        ended = setAwaited b none (benchHand b (.answer w.ticket .place w.port p .cancelled) u)
        ∧ outcomes (setAwaited b (some { ty := .remove, port := 0xFF, p := p, ticket := (u.bench b).lastTicket }) ended))

/-- A FULL makes a BOUND position FULL with its acceptance withdrawn, is accepted when already done, and refused when
unbound. From 04_orders_and_the_put_wall.md R64, R65.
The model's choices in it: log entries 26 (the ANSWER after the event's lights and before the settling) and 35 (the order of
lights and ports). -/
def Obligations.FullStopsAPosition : Prop :=
  ∀ (s : State) (b : Bench) (i : Fin 16) (p : Byte) (j : Nat), p.toNat = i.val →
    let m : PanelFields := { bench := b, ty := .full, port := 0xFF, p := p, inRange := decide (p.toNat < 16) }
    let t := panelState m s
    let q : PutPos := putPos b i
    let e := t.position q
    s.panelTaken m →
    (e.state = .bound → e.order = some j → exec (.full b p) s = .next (settle (answer b .accept
      (withdrawAcceptance j .orderFull { t with wall := t.wall.set q { e with state := .full } }))))
    ∧ (e.state = .complete ∨ e.state = .full ∨ e.state = .closing →
        exec (.full b p) s = .next (answer b .accept t))
    ∧ (e.state = .empty ∨ e.state = .binding → exec (.full b p) s = .next (answer b .unknownTote t))

/-- A PICK moves its units to its line and order, completes the line when none remain, and is refused by R101's first
test. From 06_port_lanes_and_pick_confirmation.md R100, R101, R102.
The model's choices in it: log entry 26 (the ANSWER after the event's lights and before the settling). -/
def Obligations.PickMovesUnitsOrIsRefused : Prop :=
  ∀ (s : State) (b : Bench) (port p qty : Byte) (i : Fin 16), p.toNat = i.val →
    let m : PanelFields := { bench := b, ty := .pick, port := port, p := p,
                             inRange := decide (p.toNat < 16) && qty != 0 }
    let t := panelState m s
    let q : PutPos := putPos b i
    s.panelTaken m →
    (10 ≤ port.toNat ∨ (∃ pt : Port, pt.val = port.toNat ∧ ∀ e, t.head pt = some e → e.card = none) →
      exec (.pick b port p qty) s = .next (answer b .notPresenting t))
    ∧ ∀ (pt : Port) (e : Entry) (c : CardCtx), pt.val = port.toNat → t.head pt = some e → e.card = some c →
      let late := (e.state = .ended ∨ e.state = .releasing)
        ∧ ∃ l ∈ c.lines, l.pos = some q ∧ l.result = some .recalled
      let reaches := t.st.portPresent pt = true ∧ pt ∈ reachedPorts b
      (late → exec (.pick b port p qty) s = .next (answer b .late t))
      ∧ (¬late → ¬(reaches ∧ e.state = .presenting) → exec (.pick b port p qty) s = .next (answer b .notPresenting t))
      ∧ (reaches → e.state = .presenting →
        ((∀ l ∈ c.lines, ¬(l.result = none ∧ l.pos = some q)) →
          exec (.pick b port p qty) s = .next (answer b .wrongPut t))
        ∧ (∀ l, c.lines.find? (Line.openAt q) = some l →
          let moved : Line := { l with picked := l.picked + qty.toNat, remaining := l.remaining - qty.toNat }
          let lines := c.lines.map (fun x => if x.openAt q then x.pick qty.toNat else x)
          let u := reportUnits l.order qty.toNat (setHead pt { e with card := some { c with lines := lines } } t)
          (l.remaining < qty.toNat → exec (.pick b port p qty) s = .next (answer b .over t))
          ∧ (qty.toNat < l.remaining → l.pick qty.toNat = moved
              ∧ exec (.pick b port p qty) s = .next (settle (answer b .accept (showLine pt moved u))))
          ∧ (l.remaining = qty.toNat → l.pick qty.toNat = { moved with result := some .complete, lit := false }
              ∧ exec (.pick b port p qty) s = .next (settle (answer b .accept
                  (settleEntry pt (reportLine l.order (unshowLine pt l u))))))))

/-- SHORT and TOTE_DONE resolve every unresolved line of the bench at a PRESENTING head, and report them. From
06_port_lanes_and_pick_confirmation.md R103, R104; 07_the_shared_port.md R122.
The model's choices in it: log entries 26 (the ANSWER after the event's lights and before the settling) and 35 (the order of
lights). -/
def Obligations.ShortAndToteDoneEndTheBenchLines : Prop :=
  ∀ (s : State) (b : Bench) (port : Byte) (pt : Port) (c : CardCtx),
    let short := panelState { bench := b, ty := .short, port := port, p := 0xFF, inRange := true } s
    let done := panelState { bench := b, ty := .toteDone, port := port, p := 0xFF, inRange := true } s
    let mine := c.lines.filter (fun l => l.result.isNone && l.bench == some b)
    (s.panelTaken { bench := b, ty := .short, port := port, p := 0xFF, inRange := true } →
      (short.presentingHead b port = none → exec (.short b port) s = .next (answer b .notPresenting short))
      ∧ (short.presentingHead b port = some (pt, c) → mine = [] →
          exec (.short b port) s = .next (answer b .accept short))
      ∧ (short.presentingHead b port = some (pt, c) → mine ≠ [] → exec (.short b port) s = .next (settle (answer b .accept
          (settleEntry pt (countBench b (fun k => { k with linesShort := k.linesShort + BitVec.ofNat 32 mine.length })
            (report { kind := .shortReported, bench := some b, port := some (portByte pt), card := some c.card,
                      tag := some c.tag }
              (resolveHead pt (Line.ofBench b) .short short))))))))
    ∧ (s.panelTaken { bench := b, ty := .toteDone, port := port, p := 0xFF, inRange := true } →
      (done.presentingHead b port = none → exec (.toteDone b port) s = .next (answer b .notPresenting done))
      ∧ (done.presentingHead b port = some (pt, c) → mine = [] →
          exec (.toteDone b port) s = .next (answer b .accept done))
      ∧ (done.presentingHead b port = some (pt, c) → mine ≠ [] → exec (.toteDone b port) s = .next (settle (answer b .accept
          (settleEntry pt (countBench b (fun k => { k with linesCut := k.linesCut + BitVec.ofNat 32 mine.length })
            (resolveHead pt (Line.ofBench b) .cutByPicker done)))))))

/-- Units and completed lines are counted at the position that holds the order, which becomes COMPLETE at its lines
expected. R62, R63. -/
def Obligations.CountingAtThePosition : Prop :=
  ∀ (s : State) (j u : Nat),
    (s.holder j = none → reportUnits j u s = s ∧ reportLine j s = s)
    ∧ ∀ q, s.holder j = some q →
      let e := s.position q
      let b := posBench q
      let counted (f : BenchCounters → BenchCounters) (wall : Vector Position 64) : State :=
        countBench b f { s with wall := wall }
      let n := min (e.linesCompleted + 1) 0xFFFF
      let t := counted (fun k => { k with linesComplete := k.linesComplete + 1 }) (s.wall.set q { e with linesCompleted := n })
      e.order = some j ∧ (e.state = .bound ∨ e.state = .complete ∨ e.state = .full ∨ e.state = .closing)
      ∧ reportUnits j u s = counted (fun k => { k with unitsPut := k.unitsPut + BitVec.ofNat 32 u })
          (s.wall.set q { e with unitsPut := e.unitsPut + BitVec.ofNat 32 u })
      ∧ (e.state = .bound → e.linesExpected ≠ 0 → n = e.linesExpected →
          reportLine j s = withdrawAcceptance j .orderFull
            (let v := benchHand b (.closeCue (posIndex q)) t
             { v with wall := v.wall.set q { e with linesCompleted := n, state := .complete } }))
      ∧ (e.state ≠ .bound ∨ e.linesExpected = 0 ∨ n ≠ e.linesExpected → reportLine j s = t)

/-- Grants set the last port granted and the port-grant count; a choice or swing changes neither; rotation runs up from
it. R144. -/
def Obligations.MergeGrantsKeepTheirCounts : Prop :=
  ∀ (s : State) (p : Port) (r : Request) (x : Requester) (k : Fin 10),
    (s.mga.requests.find? (fun y => y.port == p) = some r → (grant (.port p) s).mga = { s.mga with
        requests := s.mga.requests.filter (fun y => y.port != p)
        merge := .tenure (.port p) (if s.live.tenureCode = 0 then none else some (2 * s.live.tenureCode))
        lastPort := p
        portCount := min (s.mga.portCount + 1) 255 })
    ∧ (grant .recirc s).mga = { s.mga with
        recircFlag := false
        recircTimedOut := false
        merge := .tenure .recirc (if s.live.tenureCode = 0 then none else some (2 * s.live.tenureCode))
        portCount := 0 }
    ∧ (beginSwing x s).mga.lastPort = s.mga.lastPort ∧ (beginSwing x s).mga.portCount = s.mga.portCount
    ∧ (openMerge x s).mga.lastPort = s.mga.lastPort ∧ (openMerge x s).mga.portCount = s.mga.portCount
    ∧ Mga.initial.lastPort = 9 ∧ Mga.initial.portCount = 0
    ∧ (rotation p).length = 10 ∧ ((rotation p)[k.val]?).map (fun y => y.val) = some ((p.val + 1 + k.val) % 10)
    ∧ (∀ (st : Structural) (l : Live), (startBlocks (takeSettings st l s)).mga = Mga.initial)
    ∧ (∀ y, s.mga.choose false 0 = some (.port y) → (s.mga.request y).isSome = true)

/-- The put wall answers ACCEPTING for a BOUND order at a bench of the set, NOT_ACCEPTING for a closed one, else ABSENT.
From 04_orders_and_the_put_wall.md R55, R56. -/
def Obligations.PutWallAnswersQuestions : Prop :=
  ∀ (s : State) (j : Nat) (benches : List Bench), s.ordersApart →
    (∀ q : PutPos, (s.position q).order = some j →
      ((s.position q).state = .bound → posBench q ∈ benches → s.ask j benches = .accepting q (s.position q).deadline)
      ∧ ((s.position q).state = .complete ∨ (s.position q).state = .full ∨ (s.position q).state = .closing →
          posBench q ∈ benches → s.ask j benches = .notAccepting)
      ∧ ((s.position q).state = .binding ∨ posBench q ∉ benches → s.ask j benches = .absent))
    ∧ ((∀ q : PutPos, (s.position q).order ≠ some j) → s.ask j benches = .absent)

/-- An own port is open just when R74's six conditions hold, a shared port just when R116's four hold on a present one.
R74, R116. -/
def Obligations.OpenPorts : Prop :=
  ∀ (s : State) (b : Bench) (p : Port) (q : Fin 2),
    (s.openOwn b p = true ↔ s.pau.runState = .running ∧ s.glc.link.up = true ∧ (s.bench b).staffing = .staffed
      ∧ s.st.portPresent p = true ∧ s.reservations p < s.st.laneDepth[p]
      ∧ ∀ e, (s.lane p).head? = some e → e.state ≠ .stuck)
    ∧ (s.portRoom (sharedPort q) = true ↔ s.pau.runState = .running ∧ s.glc.link.up = true
      ∧ s.st.portPresent (sharedPort q) = true ∧ s.reservations (sharedPort q) < s.st.laneDepth[sharedPort q]
      ∧ ∀ e, (s.lane (sharedPort q)).head? = some e → e.state ≠ .stuck)
    ∧ s.reservations p = (s.lnc.calls.filter (fun c => c.port == p)).length + (s.lane p).length
    ∧ (∀ e, s.st.portPresent p = true → (s.lane p).head? = some e → e.state = .stuck → s.wantsHold p = true)

/-- What follows an event at once (holds, the merge's choice, calls, takes) changes nothing but what those rules change, and its
calls are those of the Call Selector: RUSH cards first, the cold rule, the fewest reservations, TWIN and lend candidates in
their order, the next free call number. From 05_calling_totes.md R73, R75, R76, R77, R78, R79, R80; 07_the_shared_port.md R115, R117,
R118, R119; 09_the_return_merge.md R143, R147; 10_the_grid_link.md R164, R165;
03_presentation_cards_and_bench_chains.md R36.
The model's choices in it: log entries 5, 12 and 29. -/
def Obligations.SettlingFrame : Prop :=
  (∀ s : State,
    (s.active = false → settle s = s)
    ∧ (s.active = true → settle s = drainTest (beginTakes (selectCalls (mergeStep (refreshHolds s)))))
    ∧ ((settle s).pau.runState = s.pau.runState →
      let t := settle s
      t.pau = s.pau ∧ t.ttu = s.ttu ∧ t.wall = s.wall ∧ t.exposures = s.exposures ∧ t.pending = s.pending
      ∧ t.ntu = { s.ntu with counters := t.ntu.counters } ∧ t.bus.posted = s.bus.posted
      ∧ (∃ new, t.lnc.calls = s.lnc.calls ++ new) ∧ (∃ new, t.bus.reads = s.bus.reads ++ new)
      ∧ t.cdm.takeSeq = s.cdm.takeSeq ∧ t.glc.link.up = s.glc.link.up
      ∧ ∀ b : Bench, (t.bench b).staffing = (s.bench b).staffing ∧ (t.bench b).picker = (s.bench b).picker
          ∧ (t.bench b).awaited = (s.bench b).awaited ∧ (t.bench b).lastTicket = (s.bench b).lastTicket
          ∧ (t.bench b).link.up = (s.bench b).link.up))
  ∧ (∀ (s : State) (c : CardCtx) (p : Port),
    (s.ready c = true ↔ ∀ l ∈ c.lines, ∃ pos d, s.ask l.order c.benches = .accepting pos d)
    ∧ (s.callable c = true ↔ s.ready c = true
        ∨ (s.live.readyWait ≠ 0 ∧ c.timeTaken.toNat + s.live.readyWait < s.pau.floorClock.toNat
            ∧ ∃ l ∈ c.lines, ∃ pos d, s.ask l.order c.benches = .accepting pos d))
    ∧ (s.rush c = true ↔ ∃ l ∈ c.lines, ∃ pos d, s.ask l.order c.benches = .accepting pos d ∧ d ≠ 0xFFFFFFFF
        ∧ d.toNat ≤ s.pau.floorClock.toNat + s.live.rushMargin)
    ∧ (s.coldAllows c p = true ↔ c.cls = .ambient ∨ ((∀ x ∈ s.lnc.calls, x.port = p → x.card.cls = .ambient)
        ∧ ∀ e ∈ s.lane p, ∀ k, e.card = some k → k.cls ≠ .ambient →
            ¬(e.state = .queued ∨ (e.state = .waitingBench ∧ k.timePresented = none)))))
  ∧ (∀ s : State,
    selectCalls s = callLoop s.stagedCount s ∧ (∀ n, callLoop (n + 1) s = (chooseOnce s).elim s (callLoop n))
    ∧ (s.choices = [] → chooseOnce s = none ∧ selectCalls s = s)
    ∧ (s.choices ≠ [] → ∃ x ∈ s.choices, ∃ k, chooseOnce s = some (makeCall x.1 x.2 { s with freeCount := k }))
    ∧ (∀ x, x ∈ s.choices ↔ (∃ b : Bench, s.ownChoice b = some x) ∨ ∃ q : Fin 2, s.sharedChoice q = some x))
  ∧ (∀ (s : State) (b : Bench) (c : CardCtx) (p : Port), s.ownChoice b = some (c, p) →
    let candidates := (s.staged b).filter (fun x => !x.twin && s.callable x)
    (∃ passed others, candidates.filter s.rush ++ candidates.filter (fun x => !s.rush x) = passed ++ c :: others
      ∧ ∀ x ∈ passed, ∀ r ∈ ownPorts x.bench, ¬(s.openOwn x.bench r = true ∧ s.coldAllows x r = true))
    ∧ p ∈ ownPorts c.bench ∧ s.openOwn c.bench p = true ∧ s.coldAllows c p = true
    ∧ ∀ r ∈ ownPorts c.bench, s.openOwn c.bench r = true → s.coldAllows c r = true →
        s.reservations p < s.reservations r ∨ (s.reservations p = s.reservations r ∧ p ≤ r))
  ∧ (∀ (s : State) (q : Fin 2),
    let sp := sharedPort q
    let first := if s.lastLent[q] = lowerBench q then upperBench q else lowerBench q
    let twins := if (s.bench (lowerBench q)).staffing = .staffed ∨ (s.bench (upperBench q)).staffing = .staffed then
      (s.staged (lowerBench q)).filter (fun x => x.twin && s.callable x && s.coldAllows x sp) else []
    let lends (b : Bench) : List CardCtx := if b ∈ s.st.lendBenches q ∧ (s.bench b).staffing = .staffed then
      (s.staged b).filter (fun x => !x.twin && s.callable x && s.coldAllows x sp
        && (ownPorts x.bench).all (fun r => !(s.openOwn x.bench r && s.coldAllows x r))) else []
    let lend (sel : CardCtx → Bool) := ((lends first).find? sel).or ((lends s.lastLent[q]).find? sel)
    let calm (x : CardCtx) : Bool := !s.rush x
    s.sharedChoice q = if s.portRoom sp then
      (((twins.find? s.rush).or (lend s.rush)).or ((twins.find? calm).or (lend calm))).map (fun c => (c, sp)) else none)
  ∧ (∀ (s : State) (c : CardCtx) (p : Port),
    let n := s.nextCallNumber
    let call : Call :=
      { number := n, card := { c with timeCalled := some s.clock, callAttempts := 1 }, port := p, state := .called,
        retries := 0, exhausted := false, dispatchSeen := false, transitExpired := false, inquiries := 0, cancel := none,
        timer := .answer 40, transit := some s.live.transitTimeout }
    let made := count (fun k => { k with calls := k.calls + 1 }) (gridHand (.call n p c.tag) { s with
      cdm := { s.cdm with
        staging := s.cdm.staging.set c.bench ((s.staged c.bench).filter (fun d => !d.named c.card c.seq)) }
      lnc := { s.lnc with calls := s.lnc.calls ++ [call], lastCall := n } })
    let used (k : Nat) : Prop := ∃ x ∈ s.lnc.calls, x.number = (s.lnc.lastCall + 1 + k) % 4096
    (p.val < 8 ∨ c.twin = true → makeCall c p s = made)
    ∧ (∀ q : Fin 2, p = sharedPort q → c.twin = false →
        makeCall c p s = { made with lastLent := s.lastLent.set q c.bench })
    ∧ ∃ k, k < 4096 ∧ n = (s.lnc.lastCall + 1 + k) % 4096 ∧ (∀ i, i < k → used i) ∧ (k < 4095 → ¬used k))

/-- Every step keeps AREA_LO aligned, the tag cache, miss list and transmit queues within their sizes, the grant count
below 256. From 01_the_plan_area.md R3; 02_tag_translation.md R23, R25; 10_the_grid_link.md R156;
11_bench_links_and_staffing.md R172; 09_the_return_merge.md R144. -/
def Obligations.EveryStepKeepsTheCapacities : Prop :=
  ∀ s t : State, s.bounded → step s = .next t → t.bounded

/-- Every step keeps each order at no more than one put position, held or claimed, and EMPTY positions without an order.
From 04_orders_and_the_put_wall.md R55, R58. -/
def Obligations.EveryStepKeepsOrdersAtOnePosition : Prop :=
  ∀ s t : State, s.ordersApart → step s = .next t → t.ordersApart

/-- Every step keeps picked + remaining + shortfall equal to the quantity on every line of every held card. From
03_presentation_cards_and_bench_chains.md R52. -/
def Obligations.EveryStepAccountsForEveryUnit : Prop :=
  ∀ s t : State, s.unitsAccounted → step s = .next t → t.unitsAccounted

/-- The reset state meets the invariants that every step keeps. From 01_the_plan_area.md Table 1-1;
03_presentation_cards_and_bench_chains.md R54; 04_orders_and_the_put_wall.md R72. -/
def Obligations.ResetMeetsTheInvariants : Prop :=
  State.reset.bounded ∧ State.reset.ordersApart ∧ State.reset.unitsAccounted
end

