-- ==== Sys2Proof/Laws/State.lean ====
section
/-! SUPPORT. What each named update of the state leaves alone and what it writes: one lemma per field per update. -/

namespace Sys2Proof.Machine

/-! ### `post` -/

@[simp] theorem post_pau (addr : Nat) (data : List Byte) (s : State) : (post addr data s).pau = s.pau := rfl
@[simp] theorem post_ttu (addr : Nat) (data : List Byte) (s : State) : (post addr data s).ttu = s.ttu := rfl
@[simp] theorem post_cdm (addr : Nat) (data : List Byte) (s : State) : (post addr data s).cdm = s.cdm := rfl
@[simp] theorem post_wall (addr : Nat) (data : List Byte) (s : State) : (post addr data s).wall = s.wall := rfl
@[simp] theorem post_lnc (addr : Nat) (data : List Byte) (s : State) : (post addr data s).lnc = s.lnc := rfl
@[simp] theorem post_lastLent (addr : Nat) (data : List Byte) (s : State) : (post addr data s).lastLent = s.lastLent :=
  rfl
@[simp] theorem post_exposures (addr : Nat) (data : List Byte) (s : State) : (post addr data s).exposures = s.exposures :=
  rfl
@[simp] theorem post_mga (addr : Nat) (data : List Byte) (s : State) : (post addr data s).mga = s.mga := rfl
@[simp] theorem post_glc (addr : Nat) (data : List Byte) (s : State) : (post addr data s).glc = s.glc := rfl
@[simp] theorem post_blc (addr : Nat) (data : List Byte) (s : State) : (post addr data s).blc = s.blc := rfl
@[simp] theorem post_ntu (addr : Nat) (data : List Byte) (s : State) : (post addr data s).ntu = s.ntu := rfl
@[simp] theorem post_freeCount (addr : Nat) (data : List Byte) (s : State) : (post addr data s).freeCount = s.freeCount :=
  rfl
@[simp] theorem post_pending (addr : Nat) (data : List Byte) (s : State) : (post addr data s).pending = s.pending := rfl

/-! ### `issueRead` -/

@[simp] theorem issueRead_pau (r : ReadFor) (addr len : Nat) (s : State) : (issueRead r addr len s).pau = s.pau := rfl
@[simp] theorem issueRead_ttu (r : ReadFor) (addr len : Nat) (s : State) : (issueRead r addr len s).ttu = s.ttu := rfl
@[simp] theorem issueRead_cdm (r : ReadFor) (addr len : Nat) (s : State) : (issueRead r addr len s).cdm = s.cdm := rfl
@[simp] theorem issueRead_wall (r : ReadFor) (addr len : Nat) (s : State) : (issueRead r addr len s).wall = s.wall :=
  rfl
@[simp] theorem issueRead_lnc (r : ReadFor) (addr len : Nat) (s : State) : (issueRead r addr len s).lnc = s.lnc := rfl
@[simp] theorem issueRead_lastLent (r : ReadFor) (addr len : Nat) (s : State) : (issueRead r addr len s).lastLent = s.lastLent :=
  rfl
@[simp] theorem issueRead_exposures (r : ReadFor) (addr len : Nat) (s : State) : (issueRead r addr len s).exposures = s.exposures :=
  rfl
@[simp] theorem issueRead_mga (r : ReadFor) (addr len : Nat) (s : State) : (issueRead r addr len s).mga = s.mga := rfl
@[simp] theorem issueRead_glc (r : ReadFor) (addr len : Nat) (s : State) : (issueRead r addr len s).glc = s.glc := rfl
@[simp] theorem issueRead_blc (r : ReadFor) (addr len : Nat) (s : State) : (issueRead r addr len s).blc = s.blc := rfl
@[simp] theorem issueRead_ntu (r : ReadFor) (addr len : Nat) (s : State) : (issueRead r addr len s).ntu = s.ntu := rfl
@[simp] theorem issueRead_freeCount (r : ReadFor) (addr len : Nat) (s : State) : (issueRead r addr len s).freeCount = s.freeCount :=
  rfl
@[simp] theorem issueRead_pending (r : ReadFor) (addr len : Nat) (s : State) : (issueRead r addr len s).pending = s.pending :=
  rfl

/-! ### `endRead` -/

@[simp] theorem endRead_pau (id : Nat) (s : State) : (endRead id s).pau = s.pau := rfl
@[simp] theorem endRead_ttu (id : Nat) (s : State) : (endRead id s).ttu = s.ttu := rfl
@[simp] theorem endRead_cdm (id : Nat) (s : State) : (endRead id s).cdm = s.cdm := rfl
@[simp] theorem endRead_wall (id : Nat) (s : State) : (endRead id s).wall = s.wall := rfl
@[simp] theorem endRead_lnc (id : Nat) (s : State) : (endRead id s).lnc = s.lnc := rfl
@[simp] theorem endRead_lastLent (id : Nat) (s : State) : (endRead id s).lastLent = s.lastLent := rfl
@[simp] theorem endRead_exposures (id : Nat) (s : State) : (endRead id s).exposures = s.exposures := rfl
@[simp] theorem endRead_mga (id : Nat) (s : State) : (endRead id s).mga = s.mga := rfl
@[simp] theorem endRead_glc (id : Nat) (s : State) : (endRead id s).glc = s.glc := rfl
@[simp] theorem endRead_blc (id : Nat) (s : State) : (endRead id s).blc = s.blc := rfl
@[simp] theorem endRead_ntu (id : Nat) (s : State) : (endRead id s).ntu = s.ntu := rfl
@[simp] theorem endRead_freeCount (id : Nat) (s : State) : (endRead id s).freeCount = s.freeCount := rfl
@[simp] theorem endRead_pending (id : Nat) (s : State) : (endRead id s).pending = s.pending := rfl

/-! ### `discardReads` -/

@[simp] theorem discardReads_pau (s : State) : (discardReads s).pau = s.pau := rfl
@[simp] theorem discardReads_ttu (s : State) : (discardReads s).ttu = s.ttu := rfl
@[simp] theorem discardReads_cdm (s : State) : (discardReads s).cdm = s.cdm := rfl
@[simp] theorem discardReads_wall (s : State) : (discardReads s).wall = s.wall := rfl
@[simp] theorem discardReads_lnc (s : State) : (discardReads s).lnc = s.lnc := rfl
@[simp] theorem discardReads_lastLent (s : State) : (discardReads s).lastLent = s.lastLent := rfl
@[simp] theorem discardReads_exposures (s : State) : (discardReads s).exposures = s.exposures := rfl
@[simp] theorem discardReads_mga (s : State) : (discardReads s).mga = s.mga := rfl
@[simp] theorem discardReads_glc (s : State) : (discardReads s).glc = s.glc := rfl
@[simp] theorem discardReads_blc (s : State) : (discardReads s).blc = s.blc := rfl
@[simp] theorem discardReads_ntu (s : State) : (discardReads s).ntu = s.ntu := rfl
@[simp] theorem discardReads_freeCount (s : State) : (discardReads s).freeCount = s.freeCount := rfl
@[simp] theorem discardReads_pending (s : State) : (discardReads s).pending = s.pending := rfl

/-! ### `setChain` -/

@[simp] theorem setChain_pau (b : Bench) (c : Chain) (s : State) : (setChain b c s).pau = s.pau := rfl
@[simp] theorem setChain_bus (b : Bench) (c : Chain) (s : State) : (setChain b c s).bus = s.bus := rfl
@[simp] theorem setChain_ttu (b : Bench) (c : Chain) (s : State) : (setChain b c s).ttu = s.ttu := rfl
@[simp] theorem setChain_wall (b : Bench) (c : Chain) (s : State) : (setChain b c s).wall = s.wall := rfl
@[simp] theorem setChain_lnc (b : Bench) (c : Chain) (s : State) : (setChain b c s).lnc = s.lnc := rfl
@[simp] theorem setChain_lastLent (b : Bench) (c : Chain) (s : State) : (setChain b c s).lastLent = s.lastLent := rfl
@[simp] theorem setChain_exposures (b : Bench) (c : Chain) (s : State) : (setChain b c s).exposures = s.exposures := rfl
@[simp] theorem setChain_mga (b : Bench) (c : Chain) (s : State) : (setChain b c s).mga = s.mga := rfl
@[simp] theorem setChain_glc (b : Bench) (c : Chain) (s : State) : (setChain b c s).glc = s.glc := rfl
@[simp] theorem setChain_blc (b : Bench) (c : Chain) (s : State) : (setChain b c s).blc = s.blc := rfl
@[simp] theorem setChain_ntu (b : Bench) (c : Chain) (s : State) : (setChain b c s).ntu = s.ntu := rfl
@[simp] theorem setChain_freeCount (b : Bench) (c : Chain) (s : State) : (setChain b c s).freeCount = s.freeCount := rfl
@[simp] theorem setChain_pending (b : Bench) (c : Chain) (s : State) : (setChain b c s).pending = s.pending := rfl

/-! ### `setStaged` -/

@[simp] theorem setStaged_pau (b : Bench) (l : List CardCtx) (s : State) : (setStaged b l s).pau = s.pau := rfl
@[simp] theorem setStaged_bus (b : Bench) (l : List CardCtx) (s : State) : (setStaged b l s).bus = s.bus := rfl
@[simp] theorem setStaged_ttu (b : Bench) (l : List CardCtx) (s : State) : (setStaged b l s).ttu = s.ttu := rfl
@[simp] theorem setStaged_wall (b : Bench) (l : List CardCtx) (s : State) : (setStaged b l s).wall = s.wall := rfl
@[simp] theorem setStaged_lnc (b : Bench) (l : List CardCtx) (s : State) : (setStaged b l s).lnc = s.lnc := rfl
@[simp] theorem setStaged_lastLent (b : Bench) (l : List CardCtx) (s : State) : (setStaged b l s).lastLent = s.lastLent :=
  rfl
@[simp] theorem setStaged_exposures (b : Bench) (l : List CardCtx) (s : State) : (setStaged b l s).exposures = s.exposures :=
  rfl
@[simp] theorem setStaged_mga (b : Bench) (l : List CardCtx) (s : State) : (setStaged b l s).mga = s.mga := rfl
@[simp] theorem setStaged_glc (b : Bench) (l : List CardCtx) (s : State) : (setStaged b l s).glc = s.glc := rfl
@[simp] theorem setStaged_blc (b : Bench) (l : List CardCtx) (s : State) : (setStaged b l s).blc = s.blc := rfl
@[simp] theorem setStaged_ntu (b : Bench) (l : List CardCtx) (s : State) : (setStaged b l s).ntu = s.ntu := rfl
@[simp] theorem setStaged_freeCount (b : Bench) (l : List CardCtx) (s : State) : (setStaged b l s).freeCount = s.freeCount :=
  rfl
@[simp] theorem setStaged_pending (b : Bench) (l : List CardCtx) (s : State) : (setStaged b l s).pending = s.pending :=
  rfl

/-! ### `setPosition` -/

@[simp] theorem setPosition_pau (q : PutPos) (p : Position) (s : State) : (setPosition q p s).pau = s.pau := rfl
@[simp] theorem setPosition_bus (q : PutPos) (p : Position) (s : State) : (setPosition q p s).bus = s.bus := rfl
@[simp] theorem setPosition_ttu (q : PutPos) (p : Position) (s : State) : (setPosition q p s).ttu = s.ttu := rfl
@[simp] theorem setPosition_cdm (q : PutPos) (p : Position) (s : State) : (setPosition q p s).cdm = s.cdm := rfl
@[simp] theorem setPosition_lnc (q : PutPos) (p : Position) (s : State) : (setPosition q p s).lnc = s.lnc := rfl
@[simp] theorem setPosition_lastLent (q : PutPos) (p : Position) (s : State) : (setPosition q p s).lastLent = s.lastLent :=
  rfl
@[simp] theorem setPosition_exposures (q : PutPos) (p : Position) (s : State) : (setPosition q p s).exposures = s.exposures :=
  rfl
@[simp] theorem setPosition_mga (q : PutPos) (p : Position) (s : State) : (setPosition q p s).mga = s.mga := rfl
@[simp] theorem setPosition_glc (q : PutPos) (p : Position) (s : State) : (setPosition q p s).glc = s.glc := rfl
@[simp] theorem setPosition_blc (q : PutPos) (p : Position) (s : State) : (setPosition q p s).blc = s.blc := rfl
@[simp] theorem setPosition_ntu (q : PutPos) (p : Position) (s : State) : (setPosition q p s).ntu = s.ntu := rfl
@[simp] theorem setPosition_freeCount (q : PutPos) (p : Position) (s : State) : (setPosition q p s).freeCount = s.freeCount :=
  rfl
@[simp] theorem setPosition_pending (q : PutPos) (p : Position) (s : State) : (setPosition q p s).pending = s.pending :=
  rfl

/-! ### `setLane` -/

@[simp] theorem setLane_pau (p : Port) (l : List Entry) (s : State) : (setLane p l s).pau = s.pau := rfl
@[simp] theorem setLane_bus (p : Port) (l : List Entry) (s : State) : (setLane p l s).bus = s.bus := rfl
@[simp] theorem setLane_ttu (p : Port) (l : List Entry) (s : State) : (setLane p l s).ttu = s.ttu := rfl
@[simp] theorem setLane_cdm (p : Port) (l : List Entry) (s : State) : (setLane p l s).cdm = s.cdm := rfl
@[simp] theorem setLane_wall (p : Port) (l : List Entry) (s : State) : (setLane p l s).wall = s.wall := rfl
@[simp] theorem setLane_lastLent (p : Port) (l : List Entry) (s : State) : (setLane p l s).lastLent = s.lastLent := rfl
@[simp] theorem setLane_exposures (p : Port) (l : List Entry) (s : State) : (setLane p l s).exposures = s.exposures :=
  rfl
@[simp] theorem setLane_mga (p : Port) (l : List Entry) (s : State) : (setLane p l s).mga = s.mga := rfl
@[simp] theorem setLane_glc (p : Port) (l : List Entry) (s : State) : (setLane p l s).glc = s.glc := rfl
@[simp] theorem setLane_blc (p : Port) (l : List Entry) (s : State) : (setLane p l s).blc = s.blc := rfl
@[simp] theorem setLane_ntu (p : Port) (l : List Entry) (s : State) : (setLane p l s).ntu = s.ntu := rfl
@[simp] theorem setLane_freeCount (p : Port) (l : List Entry) (s : State) : (setLane p l s).freeCount = s.freeCount :=
  rfl
@[simp] theorem setLane_pending (p : Port) (l : List Entry) (s : State) : (setLane p l s).pending = s.pending := rfl

/-! ### `setBench` -/

@[simp] theorem setBench_pau (b : Bench) (c : Blc) (s : State) : (setBench b c s).pau = s.pau := rfl
@[simp] theorem setBench_bus (b : Bench) (c : Blc) (s : State) : (setBench b c s).bus = s.bus := rfl
@[simp] theorem setBench_ttu (b : Bench) (c : Blc) (s : State) : (setBench b c s).ttu = s.ttu := rfl
@[simp] theorem setBench_cdm (b : Bench) (c : Blc) (s : State) : (setBench b c s).cdm = s.cdm := rfl
@[simp] theorem setBench_wall (b : Bench) (c : Blc) (s : State) : (setBench b c s).wall = s.wall := rfl
@[simp] theorem setBench_lnc (b : Bench) (c : Blc) (s : State) : (setBench b c s).lnc = s.lnc := rfl
@[simp] theorem setBench_lastLent (b : Bench) (c : Blc) (s : State) : (setBench b c s).lastLent = s.lastLent := rfl
@[simp] theorem setBench_exposures (b : Bench) (c : Blc) (s : State) : (setBench b c s).exposures = s.exposures := rfl
@[simp] theorem setBench_mga (b : Bench) (c : Blc) (s : State) : (setBench b c s).mga = s.mga := rfl
@[simp] theorem setBench_glc (b : Bench) (c : Blc) (s : State) : (setBench b c s).glc = s.glc := rfl
@[simp] theorem setBench_ntu (b : Bench) (c : Blc) (s : State) : (setBench b c s).ntu = s.ntu := rfl
@[simp] theorem setBench_freeCount (b : Bench) (c : Blc) (s : State) : (setBench b c s).freeCount = s.freeCount := rfl
@[simp] theorem setBench_pending (b : Bench) (c : Blc) (s : State) : (setBench b c s).pending = s.pending := rfl

/-! ### `setHold` -/

@[simp] theorem setHold_pau (p : Port) (h : PortHold) (s : State) : (setHold p h s).pau = s.pau := rfl
@[simp] theorem setHold_bus (p : Port) (h : PortHold) (s : State) : (setHold p h s).bus = s.bus := rfl
@[simp] theorem setHold_ttu (p : Port) (h : PortHold) (s : State) : (setHold p h s).ttu = s.ttu := rfl
@[simp] theorem setHold_cdm (p : Port) (h : PortHold) (s : State) : (setHold p h s).cdm = s.cdm := rfl
@[simp] theorem setHold_wall (p : Port) (h : PortHold) (s : State) : (setHold p h s).wall = s.wall := rfl
@[simp] theorem setHold_lnc (p : Port) (h : PortHold) (s : State) : (setHold p h s).lnc = s.lnc := rfl
@[simp] theorem setHold_lastLent (p : Port) (h : PortHold) (s : State) : (setHold p h s).lastLent = s.lastLent := rfl
@[simp] theorem setHold_exposures (p : Port) (h : PortHold) (s : State) : (setHold p h s).exposures = s.exposures := rfl
@[simp] theorem setHold_mga (p : Port) (h : PortHold) (s : State) : (setHold p h s).mga = s.mga := rfl
@[simp] theorem setHold_blc (p : Port) (h : PortHold) (s : State) : (setHold p h s).blc = s.blc := rfl
@[simp] theorem setHold_ntu (p : Port) (h : PortHold) (s : State) : (setHold p h s).ntu = s.ntu := rfl
@[simp] theorem setHold_freeCount (p : Port) (h : PortHold) (s : State) : (setHold p h s).freeCount = s.freeCount := rfl
@[simp] theorem setHold_pending (p : Port) (h : PortHold) (s : State) : (setHold p h s).pending = s.pending := rfl

/-! ### `putCall` -/

@[simp] theorem putCall_pau (c : Call) (s : State) : (putCall c s).pau = s.pau := rfl
@[simp] theorem putCall_bus (c : Call) (s : State) : (putCall c s).bus = s.bus := rfl
@[simp] theorem putCall_ttu (c : Call) (s : State) : (putCall c s).ttu = s.ttu := rfl
@[simp] theorem putCall_cdm (c : Call) (s : State) : (putCall c s).cdm = s.cdm := rfl
@[simp] theorem putCall_wall (c : Call) (s : State) : (putCall c s).wall = s.wall := rfl
@[simp] theorem putCall_lastLent (c : Call) (s : State) : (putCall c s).lastLent = s.lastLent := rfl
@[simp] theorem putCall_exposures (c : Call) (s : State) : (putCall c s).exposures = s.exposures := rfl
@[simp] theorem putCall_mga (c : Call) (s : State) : (putCall c s).mga = s.mga := rfl
@[simp] theorem putCall_glc (c : Call) (s : State) : (putCall c s).glc = s.glc := rfl
@[simp] theorem putCall_blc (c : Call) (s : State) : (putCall c s).blc = s.blc := rfl
@[simp] theorem putCall_ntu (c : Call) (s : State) : (putCall c s).ntu = s.ntu := rfl
@[simp] theorem putCall_freeCount (c : Call) (s : State) : (putCall c s).freeCount = s.freeCount := rfl
@[simp] theorem putCall_pending (c : Call) (s : State) : (putCall c s).pending = s.pending := rfl

/-! ### `removeCall` -/

@[simp] theorem removeCall_pau (n : Nat) (s : State) : (removeCall n s).pau = s.pau := rfl
@[simp] theorem removeCall_bus (n : Nat) (s : State) : (removeCall n s).bus = s.bus := rfl
@[simp] theorem removeCall_ttu (n : Nat) (s : State) : (removeCall n s).ttu = s.ttu := rfl
@[simp] theorem removeCall_cdm (n : Nat) (s : State) : (removeCall n s).cdm = s.cdm := rfl
@[simp] theorem removeCall_wall (n : Nat) (s : State) : (removeCall n s).wall = s.wall := rfl
@[simp] theorem removeCall_lastLent (n : Nat) (s : State) : (removeCall n s).lastLent = s.lastLent := rfl
@[simp] theorem removeCall_exposures (n : Nat) (s : State) : (removeCall n s).exposures = s.exposures := rfl
@[simp] theorem removeCall_mga (n : Nat) (s : State) : (removeCall n s).mga = s.mga := rfl
@[simp] theorem removeCall_glc (n : Nat) (s : State) : (removeCall n s).glc = s.glc := rfl
@[simp] theorem removeCall_blc (n : Nat) (s : State) : (removeCall n s).blc = s.blc := rfl
@[simp] theorem removeCall_ntu (n : Nat) (s : State) : (removeCall n s).ntu = s.ntu := rfl
@[simp] theorem removeCall_freeCount (n : Nat) (s : State) : (removeCall n s).freeCount = s.freeCount := rfl
@[simp] theorem removeCall_pending (n : Nat) (s : State) : (removeCall n s).pending = s.pending := rfl

/-! ### `setGridLink` -/

@[simp] theorem setGridLink_pau (l : Link GridMsg) (s : State) : (setGridLink l s).pau = s.pau := rfl
@[simp] theorem setGridLink_bus (l : Link GridMsg) (s : State) : (setGridLink l s).bus = s.bus := rfl
@[simp] theorem setGridLink_ttu (l : Link GridMsg) (s : State) : (setGridLink l s).ttu = s.ttu := rfl
@[simp] theorem setGridLink_cdm (l : Link GridMsg) (s : State) : (setGridLink l s).cdm = s.cdm := rfl
@[simp] theorem setGridLink_wall (l : Link GridMsg) (s : State) : (setGridLink l s).wall = s.wall := rfl
@[simp] theorem setGridLink_lnc (l : Link GridMsg) (s : State) : (setGridLink l s).lnc = s.lnc := rfl
@[simp] theorem setGridLink_lastLent (l : Link GridMsg) (s : State) : (setGridLink l s).lastLent = s.lastLent := rfl
@[simp] theorem setGridLink_exposures (l : Link GridMsg) (s : State) : (setGridLink l s).exposures = s.exposures := rfl
@[simp] theorem setGridLink_mga (l : Link GridMsg) (s : State) : (setGridLink l s).mga = s.mga := rfl
@[simp] theorem setGridLink_blc (l : Link GridMsg) (s : State) : (setGridLink l s).blc = s.blc := rfl
@[simp] theorem setGridLink_ntu (l : Link GridMsg) (s : State) : (setGridLink l s).ntu = s.ntu := rfl
@[simp] theorem setGridLink_freeCount (l : Link GridMsg) (s : State) : (setGridLink l s).freeCount = s.freeCount := rfl
@[simp] theorem setGridLink_pending (l : Link GridMsg) (s : State) : (setGridLink l s).pending = s.pending := rfl

/-! ### `setTtu` -/

@[simp] theorem setTtu_pau (t : Ttu) (s : State) : (setTtu t s).pau = s.pau := rfl
@[simp] theorem setTtu_bus (t : Ttu) (s : State) : (setTtu t s).bus = s.bus := rfl
@[simp] theorem setTtu_cdm (t : Ttu) (s : State) : (setTtu t s).cdm = s.cdm := rfl
@[simp] theorem setTtu_wall (t : Ttu) (s : State) : (setTtu t s).wall = s.wall := rfl
@[simp] theorem setTtu_lnc (t : Ttu) (s : State) : (setTtu t s).lnc = s.lnc := rfl
@[simp] theorem setTtu_lastLent (t : Ttu) (s : State) : (setTtu t s).lastLent = s.lastLent := rfl
@[simp] theorem setTtu_exposures (t : Ttu) (s : State) : (setTtu t s).exposures = s.exposures := rfl
@[simp] theorem setTtu_mga (t : Ttu) (s : State) : (setTtu t s).mga = s.mga := rfl
@[simp] theorem setTtu_glc (t : Ttu) (s : State) : (setTtu t s).glc = s.glc := rfl
@[simp] theorem setTtu_blc (t : Ttu) (s : State) : (setTtu t s).blc = s.blc := rfl
@[simp] theorem setTtu_ntu (t : Ttu) (s : State) : (setTtu t s).ntu = s.ntu := rfl
@[simp] theorem setTtu_freeCount (t : Ttu) (s : State) : (setTtu t s).freeCount = s.freeCount := rfl
@[simp] theorem setTtu_pending (t : Ttu) (s : State) : (setTtu t s).pending = s.pending := rfl

/-! ### `setMga` -/

@[simp] theorem setMga_pau (m : Mga) (s : State) : (setMga m s).pau = s.pau := rfl
@[simp] theorem setMga_bus (m : Mga) (s : State) : (setMga m s).bus = s.bus := rfl
@[simp] theorem setMga_ttu (m : Mga) (s : State) : (setMga m s).ttu = s.ttu := rfl
@[simp] theorem setMga_cdm (m : Mga) (s : State) : (setMga m s).cdm = s.cdm := rfl
@[simp] theorem setMga_wall (m : Mga) (s : State) : (setMga m s).wall = s.wall := rfl
@[simp] theorem setMga_lnc (m : Mga) (s : State) : (setMga m s).lnc = s.lnc := rfl
@[simp] theorem setMga_lastLent (m : Mga) (s : State) : (setMga m s).lastLent = s.lastLent := rfl
@[simp] theorem setMga_exposures (m : Mga) (s : State) : (setMga m s).exposures = s.exposures := rfl
@[simp] theorem setMga_glc (m : Mga) (s : State) : (setMga m s).glc = s.glc := rfl
@[simp] theorem setMga_blc (m : Mga) (s : State) : (setMga m s).blc = s.blc := rfl
@[simp] theorem setMga_ntu (m : Mga) (s : State) : (setMga m s).ntu = s.ntu := rfl
@[simp] theorem setMga_freeCount (m : Mga) (s : State) : (setMga m s).freeCount = s.freeCount := rfl
@[simp] theorem setMga_pending (m : Mga) (s : State) : (setMga m s).pending = s.pending := rfl

/-! ### `setPau` -/

@[simp] theorem setPau_bus (p : Pau) (s : State) : (setPau p s).bus = s.bus := rfl
@[simp] theorem setPau_ttu (p : Pau) (s : State) : (setPau p s).ttu = s.ttu := rfl
@[simp] theorem setPau_cdm (p : Pau) (s : State) : (setPau p s).cdm = s.cdm := rfl
@[simp] theorem setPau_wall (p : Pau) (s : State) : (setPau p s).wall = s.wall := rfl
@[simp] theorem setPau_lnc (p : Pau) (s : State) : (setPau p s).lnc = s.lnc := rfl
@[simp] theorem setPau_lastLent (p : Pau) (s : State) : (setPau p s).lastLent = s.lastLent := rfl
@[simp] theorem setPau_exposures (p : Pau) (s : State) : (setPau p s).exposures = s.exposures := rfl
@[simp] theorem setPau_mga (p : Pau) (s : State) : (setPau p s).mga = s.mga := rfl
@[simp] theorem setPau_glc (p : Pau) (s : State) : (setPau p s).glc = s.glc := rfl
@[simp] theorem setPau_blc (p : Pau) (s : State) : (setPau p s).blc = s.blc := rfl
@[simp] theorem setPau_ntu (p : Pau) (s : State) : (setPau p s).ntu = s.ntu := rfl
@[simp] theorem setPau_freeCount (p : Pau) (s : State) : (setPau p s).freeCount = s.freeCount := rfl
@[simp] theorem setPau_pending (p : Pau) (s : State) : (setPau p s).pending = s.pending := rfl

/-! ### `setBenchLink` -/

@[simp] theorem setBenchLink_pau (b : Bench) (l : Link BenchMsg) (s : State) : (setBenchLink b l s).pau = s.pau := rfl
@[simp] theorem setBenchLink_bus (b : Bench) (l : Link BenchMsg) (s : State) : (setBenchLink b l s).bus = s.bus := rfl
@[simp] theorem setBenchLink_ttu (b : Bench) (l : Link BenchMsg) (s : State) : (setBenchLink b l s).ttu = s.ttu := rfl
@[simp] theorem setBenchLink_cdm (b : Bench) (l : Link BenchMsg) (s : State) : (setBenchLink b l s).cdm = s.cdm := rfl
@[simp] theorem setBenchLink_wall (b : Bench) (l : Link BenchMsg) (s : State) : (setBenchLink b l s).wall = s.wall :=
  rfl
@[simp] theorem setBenchLink_lnc (b : Bench) (l : Link BenchMsg) (s : State) : (setBenchLink b l s).lnc = s.lnc := rfl
@[simp] theorem setBenchLink_lastLent (b : Bench) (l : Link BenchMsg) (s : State) : (setBenchLink b l s).lastLent = s.lastLent :=
  rfl
@[simp] theorem setBenchLink_exposures (b : Bench) (l : Link BenchMsg) (s : State) : (setBenchLink b l s).exposures = s.exposures :=
  rfl
@[simp] theorem setBenchLink_mga (b : Bench) (l : Link BenchMsg) (s : State) : (setBenchLink b l s).mga = s.mga := rfl
@[simp] theorem setBenchLink_glc (b : Bench) (l : Link BenchMsg) (s : State) : (setBenchLink b l s).glc = s.glc := rfl
@[simp] theorem setBenchLink_ntu (b : Bench) (l : Link BenchMsg) (s : State) : (setBenchLink b l s).ntu = s.ntu := rfl
@[simp] theorem setBenchLink_freeCount (b : Bench) (l : Link BenchMsg) (s : State) : (setBenchLink b l s).freeCount = s.freeCount :=
  rfl
@[simp] theorem setBenchLink_pending (b : Bench) (l : Link BenchMsg) (s : State) : (setBenchLink b l s).pending = s.pending :=
  rfl

/-! ### `setAwaited` -/

@[simp] theorem setAwaited_pau (b : Bench) (a : Option Awaited) (s : State) : (setAwaited b a s).pau = s.pau := rfl
@[simp] theorem setAwaited_bus (b : Bench) (a : Option Awaited) (s : State) : (setAwaited b a s).bus = s.bus := rfl
@[simp] theorem setAwaited_ttu (b : Bench) (a : Option Awaited) (s : State) : (setAwaited b a s).ttu = s.ttu := rfl
@[simp] theorem setAwaited_cdm (b : Bench) (a : Option Awaited) (s : State) : (setAwaited b a s).cdm = s.cdm := rfl
@[simp] theorem setAwaited_wall (b : Bench) (a : Option Awaited) (s : State) : (setAwaited b a s).wall = s.wall := rfl
@[simp] theorem setAwaited_lnc (b : Bench) (a : Option Awaited) (s : State) : (setAwaited b a s).lnc = s.lnc := rfl
@[simp] theorem setAwaited_lastLent (b : Bench) (a : Option Awaited) (s : State) : (setAwaited b a s).lastLent = s.lastLent :=
  rfl
@[simp] theorem setAwaited_exposures (b : Bench) (a : Option Awaited) (s : State) : (setAwaited b a s).exposures = s.exposures :=
  rfl
@[simp] theorem setAwaited_mga (b : Bench) (a : Option Awaited) (s : State) : (setAwaited b a s).mga = s.mga := rfl
@[simp] theorem setAwaited_glc (b : Bench) (a : Option Awaited) (s : State) : (setAwaited b a s).glc = s.glc := rfl
@[simp] theorem setAwaited_ntu (b : Bench) (a : Option Awaited) (s : State) : (setAwaited b a s).ntu = s.ntu := rfl
@[simp] theorem setAwaited_freeCount (b : Bench) (a : Option Awaited) (s : State) : (setAwaited b a s).freeCount = s.freeCount :=
  rfl
@[simp] theorem setAwaited_pending (b : Bench) (a : Option Awaited) (s : State) : (setAwaited b a s).pending = s.pending :=
  rfl

/-! ### `setHead` -/

@[simp] theorem setHead_pau (p : Port) (e : Entry) (s : State) : (setHead p e s).pau = s.pau := rfl
@[simp] theorem setHead_bus (p : Port) (e : Entry) (s : State) : (setHead p e s).bus = s.bus := rfl
@[simp] theorem setHead_ttu (p : Port) (e : Entry) (s : State) : (setHead p e s).ttu = s.ttu := rfl
@[simp] theorem setHead_cdm (p : Port) (e : Entry) (s : State) : (setHead p e s).cdm = s.cdm := rfl
@[simp] theorem setHead_wall (p : Port) (e : Entry) (s : State) : (setHead p e s).wall = s.wall := rfl
@[simp] theorem setHead_lastLent (p : Port) (e : Entry) (s : State) : (setHead p e s).lastLent = s.lastLent := rfl
@[simp] theorem setHead_exposures (p : Port) (e : Entry) (s : State) : (setHead p e s).exposures = s.exposures := rfl
@[simp] theorem setHead_mga (p : Port) (e : Entry) (s : State) : (setHead p e s).mga = s.mga := rfl
@[simp] theorem setHead_glc (p : Port) (e : Entry) (s : State) : (setHead p e s).glc = s.glc := rfl
@[simp] theorem setHead_blc (p : Port) (e : Entry) (s : State) : (setHead p e s).blc = s.blc := rfl
@[simp] theorem setHead_ntu (p : Port) (e : Entry) (s : State) : (setHead p e s).ntu = s.ntu := rfl
@[simp] theorem setHead_freeCount (p : Port) (e : Entry) (s : State) : (setHead p e s).freeCount = s.freeCount := rfl
@[simp] theorem setHead_pending (p : Port) (e : Entry) (s : State) : (setHead p e s).pending = s.pending := rfl

/-! ### `count` -/

@[simp] theorem count_pau (f : Counters → Counters) (s : State) : (count f s).pau = s.pau := rfl
@[simp] theorem count_bus (f : Counters → Counters) (s : State) : (count f s).bus = s.bus := rfl
@[simp] theorem count_ttu (f : Counters → Counters) (s : State) : (count f s).ttu = s.ttu := rfl
@[simp] theorem count_cdm (f : Counters → Counters) (s : State) : (count f s).cdm = s.cdm := rfl
@[simp] theorem count_wall (f : Counters → Counters) (s : State) : (count f s).wall = s.wall := rfl
@[simp] theorem count_lnc (f : Counters → Counters) (s : State) : (count f s).lnc = s.lnc := rfl
@[simp] theorem count_lastLent (f : Counters → Counters) (s : State) : (count f s).lastLent = s.lastLent := rfl
@[simp] theorem count_exposures (f : Counters → Counters) (s : State) : (count f s).exposures = s.exposures := rfl
@[simp] theorem count_mga (f : Counters → Counters) (s : State) : (count f s).mga = s.mga := rfl
@[simp] theorem count_glc (f : Counters → Counters) (s : State) : (count f s).glc = s.glc := rfl
@[simp] theorem count_blc (f : Counters → Counters) (s : State) : (count f s).blc = s.blc := rfl
@[simp] theorem count_freeCount (f : Counters → Counters) (s : State) : (count f s).freeCount = s.freeCount := rfl
@[simp] theorem count_pending (f : Counters → Counters) (s : State) : (count f s).pending = s.pending := rfl

/-! ### `countBench` -/

@[simp] theorem countBench_pau (b : Bench) (f : BenchCounters → BenchCounters) (s : State) : (countBench b f s).pau = s.pau :=
  rfl
@[simp] theorem countBench_bus (b : Bench) (f : BenchCounters → BenchCounters) (s : State) : (countBench b f s).bus = s.bus :=
  rfl
@[simp] theorem countBench_ttu (b : Bench) (f : BenchCounters → BenchCounters) (s : State) : (countBench b f s).ttu = s.ttu :=
  rfl
@[simp] theorem countBench_cdm (b : Bench) (f : BenchCounters → BenchCounters) (s : State) : (countBench b f s).cdm = s.cdm :=
  rfl
@[simp] theorem countBench_wall (b : Bench) (f : BenchCounters → BenchCounters) (s : State) : (countBench b f s).wall = s.wall :=
  rfl
@[simp] theorem countBench_lnc (b : Bench) (f : BenchCounters → BenchCounters) (s : State) : (countBench b f s).lnc = s.lnc :=
  rfl
@[simp] theorem countBench_lastLent (b : Bench) (f : BenchCounters → BenchCounters) (s : State) : (countBench b f s).lastLent = s.lastLent :=
  rfl
@[simp] theorem countBench_exposures (b : Bench) (f : BenchCounters → BenchCounters) (s : State) : (countBench b f s).exposures = s.exposures :=
  rfl
@[simp] theorem countBench_mga (b : Bench) (f : BenchCounters → BenchCounters) (s : State) : (countBench b f s).mga = s.mga :=
  rfl
@[simp] theorem countBench_glc (b : Bench) (f : BenchCounters → BenchCounters) (s : State) : (countBench b f s).glc = s.glc :=
  rfl
@[simp] theorem countBench_blc (b : Bench) (f : BenchCounters → BenchCounters) (s : State) : (countBench b f s).blc = s.blc :=
  rfl
@[simp] theorem countBench_freeCount (b : Bench) (f : BenchCounters → BenchCounters) (s : State) : (countBench b f s).freeCount = s.freeCount :=
  rfl
@[simp] theorem countBench_pending (b : Bench) (f : BenchCounters → BenchCounters) (s : State) : (countBench b f s).pending = s.pending :=
  rfl

/-! ### `endExposure` -/

@[simp] theorem endExposure_pau (c : CardCtx) (s : State) : (endExposure c s).pau = s.pau := rfl
@[simp] theorem endExposure_bus (c : CardCtx) (s : State) : (endExposure c s).bus = s.bus := rfl
@[simp] theorem endExposure_ttu (c : CardCtx) (s : State) : (endExposure c s).ttu = s.ttu := rfl
@[simp] theorem endExposure_cdm (c : CardCtx) (s : State) : (endExposure c s).cdm = s.cdm := rfl
@[simp] theorem endExposure_wall (c : CardCtx) (s : State) : (endExposure c s).wall = s.wall := rfl
@[simp] theorem endExposure_lnc (c : CardCtx) (s : State) : (endExposure c s).lnc = s.lnc := rfl
@[simp] theorem endExposure_lastLent (c : CardCtx) (s : State) : (endExposure c s).lastLent = s.lastLent := rfl
@[simp] theorem endExposure_mga (c : CardCtx) (s : State) : (endExposure c s).mga = s.mga := rfl
@[simp] theorem endExposure_glc (c : CardCtx) (s : State) : (endExposure c s).glc = s.glc := rfl
@[simp] theorem endExposure_blc (c : CardCtx) (s : State) : (endExposure c s).blc = s.blc := rfl
@[simp] theorem endExposure_ntu (c : CardCtx) (s : State) : (endExposure c s).ntu = s.ntu := rfl
@[simp] theorem endExposure_freeCount (c : CardCtx) (s : State) : (endExposure c s).freeCount = s.freeCount := rfl
@[simp] theorem endExposure_pending (c : CardCtx) (s : State) : (endExposure c s).pending = s.pending := rfl

/-! ### `updateExposure` -/

@[simp] theorem updateExposure_pau (card : Nat) (seq : Word) (f : Exposure → Exposure) (s : State) : (updateExposure card seq f s).pau = s.pau :=
  rfl
@[simp] theorem updateExposure_bus (card : Nat) (seq : Word) (f : Exposure → Exposure) (s : State) : (updateExposure card seq f s).bus = s.bus :=
  rfl
@[simp] theorem updateExposure_ttu (card : Nat) (seq : Word) (f : Exposure → Exposure) (s : State) : (updateExposure card seq f s).ttu = s.ttu :=
  rfl
@[simp] theorem updateExposure_cdm (card : Nat) (seq : Word) (f : Exposure → Exposure) (s : State) : (updateExposure card seq f s).cdm = s.cdm :=
  rfl
@[simp] theorem updateExposure_wall (card : Nat) (seq : Word) (f : Exposure → Exposure) (s : State) : (updateExposure card seq f s).wall = s.wall :=
  rfl
@[simp] theorem updateExposure_lnc (card : Nat) (seq : Word) (f : Exposure → Exposure) (s : State) : (updateExposure card seq f s).lnc = s.lnc :=
  rfl
@[simp] theorem updateExposure_lastLent (card : Nat) (seq : Word) (f : Exposure → Exposure) (s : State) : (updateExposure card seq f s).lastLent = s.lastLent :=
  rfl
@[simp] theorem updateExposure_mga (card : Nat) (seq : Word) (f : Exposure → Exposure) (s : State) : (updateExposure card seq f s).mga = s.mga :=
  rfl
@[simp] theorem updateExposure_glc (card : Nat) (seq : Word) (f : Exposure → Exposure) (s : State) : (updateExposure card seq f s).glc = s.glc :=
  rfl
@[simp] theorem updateExposure_blc (card : Nat) (seq : Word) (f : Exposure → Exposure) (s : State) : (updateExposure card seq f s).blc = s.blc :=
  rfl
@[simp] theorem updateExposure_ntu (card : Nat) (seq : Word) (f : Exposure → Exposure) (s : State) : (updateExposure card seq f s).ntu = s.ntu :=
  rfl
@[simp] theorem updateExposure_freeCount (card : Nat) (seq : Word) (f : Exposure → Exposure) (s : State) : (updateExposure card seq f s).freeCount = s.freeCount :=
  rfl
@[simp] theorem updateExposure_pending (card : Nat) (seq : Word) (f : Exposure → Exposure) (s : State) : (updateExposure card seq f s).pending = s.pending :=
  rfl

/-! ### `forgetOrderFlags` -/

@[simp] theorem forgetOrderFlags_pau (q : PutPos) (s : State) : (forgetOrderFlags q s).pau = s.pau := rfl
@[simp] theorem forgetOrderFlags_ttu (q : PutPos) (s : State) : (forgetOrderFlags q s).ttu = s.ttu := rfl
@[simp] theorem forgetOrderFlags_cdm (q : PutPos) (s : State) : (forgetOrderFlags q s).cdm = s.cdm := rfl
@[simp] theorem forgetOrderFlags_wall (q : PutPos) (s : State) : (forgetOrderFlags q s).wall = s.wall := rfl
@[simp] theorem forgetOrderFlags_lnc (q : PutPos) (s : State) : (forgetOrderFlags q s).lnc = s.lnc := rfl
@[simp] theorem forgetOrderFlags_lastLent (q : PutPos) (s : State) : (forgetOrderFlags q s).lastLent = s.lastLent := rfl
@[simp] theorem forgetOrderFlags_exposures (q : PutPos) (s : State) : (forgetOrderFlags q s).exposures = s.exposures :=
  rfl
@[simp] theorem forgetOrderFlags_mga (q : PutPos) (s : State) : (forgetOrderFlags q s).mga = s.mga := rfl
@[simp] theorem forgetOrderFlags_glc (q : PutPos) (s : State) : (forgetOrderFlags q s).glc = s.glc := rfl
@[simp] theorem forgetOrderFlags_blc (q : PutPos) (s : State) : (forgetOrderFlags q s).blc = s.blc := rfl
@[simp] theorem forgetOrderFlags_ntu (q : PutPos) (s : State) : (forgetOrderFlags q s).ntu = s.ntu := rfl
@[simp] theorem forgetOrderFlags_freeCount (q : PutPos) (s : State) : (forgetOrderFlags q s).freeCount = s.freeCount :=
  rfl
@[simp] theorem forgetOrderFlags_pending (q : PutPos) (s : State) : (forgetOrderFlags q s).pending = s.pending := rfl

/-! ### `requestRelease` -/

@[simp] theorem requestRelease_pau (p : Port) (e : Entry) (s : State) : (requestRelease p e s).pau = s.pau := rfl
@[simp] theorem requestRelease_bus (p : Port) (e : Entry) (s : State) : (requestRelease p e s).bus = s.bus := rfl
@[simp] theorem requestRelease_ttu (p : Port) (e : Entry) (s : State) : (requestRelease p e s).ttu = s.ttu := rfl
@[simp] theorem requestRelease_cdm (p : Port) (e : Entry) (s : State) : (requestRelease p e s).cdm = s.cdm := rfl
@[simp] theorem requestRelease_wall (p : Port) (e : Entry) (s : State) : (requestRelease p e s).wall = s.wall := rfl
@[simp] theorem requestRelease_lnc (p : Port) (e : Entry) (s : State) : (requestRelease p e s).lnc = s.lnc := rfl
@[simp] theorem requestRelease_lastLent (p : Port) (e : Entry) (s : State) : (requestRelease p e s).lastLent = s.lastLent :=
  rfl
@[simp] theorem requestRelease_exposures (p : Port) (e : Entry) (s : State) : (requestRelease p e s).exposures = s.exposures :=
  rfl
@[simp] theorem requestRelease_glc (p : Port) (e : Entry) (s : State) : (requestRelease p e s).glc = s.glc := rfl
@[simp] theorem requestRelease_blc (p : Port) (e : Entry) (s : State) : (requestRelease p e s).blc = s.blc := rfl
@[simp] theorem requestRelease_ntu (p : Port) (e : Entry) (s : State) : (requestRelease p e s).ntu = s.ntu := rfl
@[simp] theorem requestRelease_freeCount (p : Port) (e : Entry) (s : State) : (requestRelease p e s).freeCount = s.freeCount :=
  rfl
@[simp] theorem requestRelease_pending (p : Port) (e : Entry) (s : State) : (requestRelease p e s).pending = s.pending :=
  rfl

/-! ### What each update writes -/

@[simp] theorem setPau_self (p : Pau) (s : State) : (setPau p s).pau = p := rfl
@[simp] theorem setMga_self (m : Mga) (s : State) : (setMga m s).mga = m := rfl
@[simp] theorem setTtu_self (t : Ttu) (s : State) : (setTtu t s).ttu = t := rfl
@[simp] theorem setGridLink_self (l : Link GridMsg) (s : State) : (setGridLink l s).glc.link = l := rfl
@[simp] theorem setGridLink_holds (l : Link GridMsg) (s : State) : (setGridLink l s).glc.holds = s.glc.holds := rfl
@[simp] theorem setHold_link (p : Port) (h : PortHold) (s : State) : (setHold p h s).glc.link = s.glc.link := rfl
@[simp] theorem post_posted (addr : Nat) (data : List Byte) (s : State) :
    (post addr data s).bus.posted = s.bus.posted ++ [{ addr := addr, data := data }] := rfl
@[simp] theorem post_reads (addr : Nat) (data : List Byte) (s : State) : (post addr data s).bus.reads = s.bus.reads :=
  rfl
@[simp] theorem post_nextRead (addr : Nat) (data : List Byte) (s : State) :
    (post addr data s).bus.nextRead = s.bus.nextRead := rfl
@[simp] theorem issueRead_posted (r : ReadFor) (addr len : Nat) (s : State) :
    (issueRead r addr len s).bus.posted = s.bus.posted := rfl
@[simp] theorem issueRead_reads (r : ReadFor) (addr len : Nat) (s : State) : (issueRead r addr len s).bus.reads =
    s.bus.reads ++ [{ id := s.bus.nextRead, purpose := r, addr := addr, len := len, discarded := false }] := rfl
@[simp] theorem endRead_posted (id : Nat) (s : State) : (endRead id s).bus.posted = s.bus.posted := rfl
@[simp] theorem endRead_nextRead (id : Nat) (s : State) : (endRead id s).bus.nextRead = s.bus.nextRead := rfl
@[simp] theorem discardReads_posted (s : State) : (discardReads s).bus.posted = s.bus.posted := rfl
@[simp] theorem forgetOrderFlags_posted (q : PutPos) (s : State) : (forgetOrderFlags q s).bus.posted = s.bus.posted :=
  rfl
@[simp] theorem setStaged_chains (b : Bench) (l : List CardCtx) (s : State) : (setStaged b l s).cdm.chains = s.cdm.chains :=
  rfl
@[simp] theorem setStaged_takeSeq (b : Bench) (l : List CardCtx) (s : State) :
    (setStaged b l s).cdm.takeSeq = s.cdm.takeSeq := rfl
@[simp] theorem setChain_staging (b : Bench) (c : Chain) (s : State) : (setChain b c s).cdm.staging = s.cdm.staging :=
  rfl
@[simp] theorem setChain_takeSeq (b : Bench) (c : Chain) (s : State) : (setChain b c s).cdm.takeSeq = s.cdm.takeSeq :=
  rfl
@[simp] theorem setLane_calls (p : Port) (l : List Entry) (s : State) : (setLane p l s).lnc.calls = s.lnc.calls := rfl
@[simp] theorem setLane_lastCall (p : Port) (l : List Entry) (s : State) : (setLane p l s).lnc.lastCall = s.lnc.lastCall :=
  rfl
@[simp] theorem setHead_calls (p : Port) (e : Entry) (s : State) : (setHead p e s).lnc.calls = s.lnc.calls := rfl
@[simp] theorem putCall_lanes (c : Call) (s : State) : (putCall c s).lnc.lanes = s.lnc.lanes := rfl
@[simp] theorem removeCall_lanes (n : Nat) (s : State) : (removeCall n s).lnc.lanes = s.lnc.lanes := rfl
@[simp] theorem count_events (f : Counters → Counters) (s : State) : (count f s).ntu.events = s.ntu.events := rfl
@[simp] theorem count_mask (f : Counters → Counters) (s : State) : (count f s).ntu.mask = s.ntu.mask := rfl
@[simp] theorem count_signals (f : Counters → Counters) (s : State) : (count f s).ntu.signals = s.ntu.signals := rfl
@[simp] theorem count_capture (f : Counters → Counters) (s : State) : (count f s).ntu.capture = s.ntu.capture := rfl
@[simp] theorem count_counters (f : Counters → Counters) (s : State) : (count f s).ntu.counters = f s.ntu.counters :=
  rfl

/-! ### Vectors read back -/

@[simp] theorem setPosition_position_self (q : PutPos) (p : Position) (s : State) : (setPosition q p s).position q = p := by
  simp [setPosition, State.position]

theorem setPosition_position_ne {q r : PutPos} (h : q ≠ r) (p : Position) (s : State) :
    (setPosition q p s).position r = s.position r := by
  have : q.val ≠ r.val := fun e => h (Fin.ext e)
  simp [setPosition, State.position, this]

@[simp] theorem setBench_bench_self (b : Bench) (c : Blc) (s : State) : (setBench b c s).bench b = c := by
  simp [setBench, State.bench]

theorem setBench_bench_ne {b d : Bench} (h : b ≠ d) (c : Blc) (s : State) : (setBench b c s).bench d = s.bench d := by
  have : b.val ≠ d.val := fun e => h (Fin.ext e)
  simp [setBench, State.bench, this]

@[simp] theorem setLane_lane_self (p : Port) (l : List Entry) (s : State) : (setLane p l s).lane p = l := by
  simp [setLane, State.lane]

theorem setLane_lane_ne {p q : Port} (h : p ≠ q) (l : List Entry) (s : State) : (setLane p l s).lane q = s.lane q := by
  have : p.val ≠ q.val := fun e => h (Fin.ext e)
  simp [setLane, State.lane, this]

@[simp] theorem setHold_hold_self (p : Port) (h : PortHold) (s : State) : (setHold p h s).hold p = h := by
  simp [setHold, State.hold]

theorem setHold_hold_ne {p q : Port} (h : p ≠ q) (x : PortHold) (s : State) : (setHold p x s).hold q = s.hold q := by
  have : p.val ≠ q.val := fun e => h (Fin.ext e)
  simp [setHold, State.hold, this]

@[simp] theorem setChain_chain_self (b : Bench) (c : Chain) (s : State) : (setChain b c s).chain b = c := by
  simp [setChain, State.chain]

theorem setChain_chain_ne {b d : Bench} (h : b ≠ d) (c : Chain) (s : State) : (setChain b c s).chain d = s.chain d := by
  have : b.val ≠ d.val := fun e => h (Fin.ext e)
  simp [setChain, State.chain, this]

@[simp] theorem setStaged_staged_self (b : Bench) (l : List CardCtx) (s : State) : (setStaged b l s).staged b = l := by
  simp [setStaged, State.staged]

theorem setStaged_staged_ne {b d : Bench} (h : b ≠ d) (l : List CardCtx) (s : State) :
    (setStaged b l s).staged d = s.staged d := by
  have : b.val ≠ d.val := fun e => h (Fin.ext e)
  simp [setStaged, State.staged, this]

end Sys2Proof.Machine
end

