-- ==== Sys2Proof/Laws/Notices.lean ====
section
/-! SUPPORT. Everything that finding the signal conditions, raising an event and reporting an exception can do. -/

namespace Sys2Proof.Machine

/-- The state with other notice fields and more posted writes: what the Notice Unit's operations may touch. -/
def State.noticed (s : State) (events : BitVec 11) (signals : Vector Bool 4) (capture : Capture) (more : List HostWrite)
    (free : Nat) : State :=
  { s with
    ntu := { s.ntu with events := events, signals := signals, capture := capture }
    bus := { s.bus with posted := s.bus.posted ++ more }
    freeCount := free }

theorem findSignal_changes (quiet : Bool) (s : State) (v : Fin 4) :
    ∃ g w, findSignal quiet s v = s.noticed s.ntu.events g s.ntu.capture w s.freeCount := by
  simp only [findSignal]
  split
  · exact ⟨_, _, rfl⟩
  · exact ⟨s.ntu.signals.set v (s.signalCondition v), [], by simp [State.noticed]⟩

theorem findSignals_changes (quiet : Bool) (s : State) :
    ∃ g w, findSignals quiet s = s.noticed s.ntu.events g s.ntu.capture w s.freeCount := by
  obtain ⟨g0, w0, h0⟩ := findSignal_changes quiet s 0
  obtain ⟨g1, w1, h1⟩ := findSignal_changes quiet (findSignal quiet s 0) 1
  obtain ⟨g2, w2, h2⟩ := findSignal_changes quiet (findSignal quiet (findSignal quiet s 0) 1) 2
  obtain ⟨g3, w3, h3⟩ := findSignal_changes quiet (findSignal quiet (findSignal quiet (findSignal quiet s 0) 1) 2) 3
  refine ⟨g3, w0 ++ w1 ++ w2 ++ w3, ?_⟩
  show findSignal quiet (findSignal quiet (findSignal quiet (findSignal quiet s 0) 1) 2) 3 = _
  rw [h3, h2, h1, h0]
  simp [State.noticed]

theorem raise_changes (e : Event) (s : State) :
    ∃ g w, raise e s = s.noticed (s.ntu.events ||| e.bits) g s.ntu.capture w s.freeCount := by
  obtain ⟨g, w, h⟩ := findSignals_changes false { s with ntu := { s.ntu with events := s.ntu.events ||| e.bits } }
  exact ⟨g, w, by unfold raise; rw [h]; rfl⟩

theorem report_changes (r : Report) (s : State) : ∃ ev g c w n, report r s = s.noticed ev g c w n := by
  unfold report
  split
  · obtain ⟨g, w, h⟩ := raise_changes .exception { s with
      ntu := { s.ntu with capture := r.capture (Config.absentTag s.freeCount) s.clock }
      freeCount := s.freeCount + 1 }
    exact ⟨_, g, _, w, _, by rw [h]; rfl⟩
  · exact ⟨s.ntu.events, s.ntu.signals, _, [], s.freeCount, by simp [State.noticed]; rfl⟩

/-! ### Frames -/

@[simp] theorem findSignals_pau (quiet : Bool) (s : State) : (findSignals quiet s).pau = s.pau := by
  obtain ⟨g, w, h⟩ := findSignals_changes quiet s; rw [h]; rfl
@[simp] theorem findSignals_ttu (quiet : Bool) (s : State) : (findSignals quiet s).ttu = s.ttu := by
  obtain ⟨g, w, h⟩ := findSignals_changes quiet s; rw [h]; rfl
@[simp] theorem findSignals_cdm (quiet : Bool) (s : State) : (findSignals quiet s).cdm = s.cdm := by
  obtain ⟨g, w, h⟩ := findSignals_changes quiet s; rw [h]; rfl
@[simp] theorem findSignals_wall (quiet : Bool) (s : State) : (findSignals quiet s).wall = s.wall := by
  obtain ⟨g, w, h⟩ := findSignals_changes quiet s; rw [h]; rfl
@[simp] theorem findSignals_lnc (quiet : Bool) (s : State) : (findSignals quiet s).lnc = s.lnc := by
  obtain ⟨g, w, h⟩ := findSignals_changes quiet s; rw [h]; rfl
@[simp] theorem findSignals_lastLent (quiet : Bool) (s : State) : (findSignals quiet s).lastLent = s.lastLent := by
  obtain ⟨g, w, h⟩ := findSignals_changes quiet s; rw [h]; rfl
@[simp] theorem findSignals_exposures (quiet : Bool) (s : State) : (findSignals quiet s).exposures = s.exposures := by
  obtain ⟨g, w, h⟩ := findSignals_changes quiet s; rw [h]; rfl
@[simp] theorem findSignals_mga (quiet : Bool) (s : State) : (findSignals quiet s).mga = s.mga := by
  obtain ⟨g, w, h⟩ := findSignals_changes quiet s; rw [h]; rfl
@[simp] theorem findSignals_glc (quiet : Bool) (s : State) : (findSignals quiet s).glc = s.glc := by
  obtain ⟨g, w, h⟩ := findSignals_changes quiet s; rw [h]; rfl
@[simp] theorem findSignals_blc (quiet : Bool) (s : State) : (findSignals quiet s).blc = s.blc := by
  obtain ⟨g, w, h⟩ := findSignals_changes quiet s; rw [h]; rfl
@[simp] theorem findSignals_pending (quiet : Bool) (s : State) : (findSignals quiet s).pending = s.pending := by
  obtain ⟨g, w, h⟩ := findSignals_changes quiet s; rw [h]; rfl
@[simp] theorem findSignals_mask (quiet : Bool) (s : State) : (findSignals quiet s).ntu.mask = s.ntu.mask := by
  obtain ⟨g, w, h⟩ := findSignals_changes quiet s; rw [h]; rfl
@[simp] theorem findSignals_counters (quiet : Bool) (s : State) : (findSignals quiet s).ntu.counters = s.ntu.counters := by
  obtain ⟨g, w, h⟩ := findSignals_changes quiet s; rw [h]; rfl
@[simp] theorem findSignals_reads (quiet : Bool) (s : State) : (findSignals quiet s).bus.reads = s.bus.reads := by
  obtain ⟨g, w, h⟩ := findSignals_changes quiet s; rw [h]; rfl
@[simp] theorem findSignals_nextRead (quiet : Bool) (s : State) : (findSignals quiet s).bus.nextRead = s.bus.nextRead := by
  obtain ⟨g, w, h⟩ := findSignals_changes quiet s; rw [h]; rfl

@[simp] theorem raise_pau (e : Event) (s : State) : (raise e s).pau = s.pau := by
  obtain ⟨g, w, h⟩ := raise_changes e s; rw [h]; rfl
@[simp] theorem raise_ttu (e : Event) (s : State) : (raise e s).ttu = s.ttu := by
  obtain ⟨g, w, h⟩ := raise_changes e s; rw [h]; rfl
@[simp] theorem raise_cdm (e : Event) (s : State) : (raise e s).cdm = s.cdm := by
  obtain ⟨g, w, h⟩ := raise_changes e s; rw [h]; rfl
@[simp] theorem raise_wall (e : Event) (s : State) : (raise e s).wall = s.wall := by
  obtain ⟨g, w, h⟩ := raise_changes e s; rw [h]; rfl
@[simp] theorem raise_lnc (e : Event) (s : State) : (raise e s).lnc = s.lnc := by
  obtain ⟨g, w, h⟩ := raise_changes e s; rw [h]; rfl
@[simp] theorem raise_lastLent (e : Event) (s : State) : (raise e s).lastLent = s.lastLent := by
  obtain ⟨g, w, h⟩ := raise_changes e s; rw [h]; rfl
@[simp] theorem raise_exposures (e : Event) (s : State) : (raise e s).exposures = s.exposures := by
  obtain ⟨g, w, h⟩ := raise_changes e s; rw [h]; rfl
@[simp] theorem raise_mga (e : Event) (s : State) : (raise e s).mga = s.mga := by
  obtain ⟨g, w, h⟩ := raise_changes e s; rw [h]; rfl
@[simp] theorem raise_glc (e : Event) (s : State) : (raise e s).glc = s.glc := by
  obtain ⟨g, w, h⟩ := raise_changes e s; rw [h]; rfl
@[simp] theorem raise_blc (e : Event) (s : State) : (raise e s).blc = s.blc := by
  obtain ⟨g, w, h⟩ := raise_changes e s; rw [h]; rfl
@[simp] theorem raise_pending (e : Event) (s : State) : (raise e s).pending = s.pending := by
  obtain ⟨g, w, h⟩ := raise_changes e s; rw [h]; rfl
@[simp] theorem raise_mask (e : Event) (s : State) : (raise e s).ntu.mask = s.ntu.mask := by
  obtain ⟨g, w, h⟩ := raise_changes e s; rw [h]; rfl
@[simp] theorem raise_counters (e : Event) (s : State) : (raise e s).ntu.counters = s.ntu.counters := by
  obtain ⟨g, w, h⟩ := raise_changes e s; rw [h]; rfl
@[simp] theorem raise_reads (e : Event) (s : State) : (raise e s).bus.reads = s.bus.reads := by
  obtain ⟨g, w, h⟩ := raise_changes e s; rw [h]; rfl
@[simp] theorem raise_nextRead (e : Event) (s : State) : (raise e s).bus.nextRead = s.bus.nextRead := by
  obtain ⟨g, w, h⟩ := raise_changes e s; rw [h]; rfl

@[simp] theorem report_pau (r : Report) (s : State) : (report r s).pau = s.pau := by
  obtain ⟨ev, g, c, w, n, h⟩ := report_changes r s; rw [h]; rfl
@[simp] theorem report_ttu (r : Report) (s : State) : (report r s).ttu = s.ttu := by
  obtain ⟨ev, g, c, w, n, h⟩ := report_changes r s; rw [h]; rfl
@[simp] theorem report_cdm (r : Report) (s : State) : (report r s).cdm = s.cdm := by
  obtain ⟨ev, g, c, w, n, h⟩ := report_changes r s; rw [h]; rfl
@[simp] theorem report_wall (r : Report) (s : State) : (report r s).wall = s.wall := by
  obtain ⟨ev, g, c, w, n, h⟩ := report_changes r s; rw [h]; rfl
@[simp] theorem report_lnc (r : Report) (s : State) : (report r s).lnc = s.lnc := by
  obtain ⟨ev, g, c, w, n, h⟩ := report_changes r s; rw [h]; rfl
@[simp] theorem report_lastLent (r : Report) (s : State) : (report r s).lastLent = s.lastLent := by
  obtain ⟨ev, g, c, w, n, h⟩ := report_changes r s; rw [h]; rfl
@[simp] theorem report_exposures (r : Report) (s : State) : (report r s).exposures = s.exposures := by
  obtain ⟨ev, g, c, w, n, h⟩ := report_changes r s; rw [h]; rfl
@[simp] theorem report_mga (r : Report) (s : State) : (report r s).mga = s.mga := by
  obtain ⟨ev, g, c, w, n, h⟩ := report_changes r s; rw [h]; rfl
@[simp] theorem report_glc (r : Report) (s : State) : (report r s).glc = s.glc := by
  obtain ⟨ev, g, c, w, n, h⟩ := report_changes r s; rw [h]; rfl
@[simp] theorem report_blc (r : Report) (s : State) : (report r s).blc = s.blc := by
  obtain ⟨ev, g, c, w, n, h⟩ := report_changes r s; rw [h]; rfl
@[simp] theorem report_pending (r : Report) (s : State) : (report r s).pending = s.pending := by
  obtain ⟨ev, g, c, w, n, h⟩ := report_changes r s; rw [h]; rfl
@[simp] theorem report_mask (r : Report) (s : State) : (report r s).ntu.mask = s.ntu.mask := by
  obtain ⟨ev, g, c, w, n, h⟩ := report_changes r s; rw [h]; rfl
@[simp] theorem report_counters (r : Report) (s : State) : (report r s).ntu.counters = s.ntu.counters := by
  obtain ⟨ev, g, c, w, n, h⟩ := report_changes r s; rw [h]; rfl
@[simp] theorem report_reads (r : Report) (s : State) : (report r s).bus.reads = s.bus.reads := by
  obtain ⟨ev, g, c, w, n, h⟩ := report_changes r s; rw [h]; rfl
@[simp] theorem report_nextRead (r : Report) (s : State) : (report r s).bus.nextRead = s.bus.nextRead := by
  obtain ⟨ev, g, c, w, n, h⟩ := report_changes r s; rw [h]; rfl

@[simp] theorem raise_freeCount (e : Event) (s : State) : (raise e s).freeCount = s.freeCount := by
  obtain ⟨g, w, h⟩ := raise_changes e s; rw [h]; rfl
@[simp] theorem raise_events (e : Event) (s : State) : (raise e s).ntu.events = s.ntu.events ||| e.bits := by
  obtain ⟨g, w, h⟩ := raise_changes e s; rw [h]; rfl
@[simp] theorem raise_capture (e : Event) (s : State) : (raise e s).ntu.capture = s.ntu.capture := by
  obtain ⟨g, w, h⟩ := raise_changes e s; rw [h]; rfl

end Sys2Proof.Machine
end

