-- ==== Sys2Proof/Laws/Links.lean ====
section
/-! SUPPORT. Everything that handing a message to a link can do, and the operations built of it. -/

namespace Sys2Proof.Machine

/-! ### One link -/

@[simp] theorem Link.enqueue_up {M : Type} (m : M) (l : Link M) : (l.enqueue m).up = l.up := by
  unfold Link.enqueue; split <;> rfl

theorem Link.enqueue_queue {M : Type} (m : M) (l : Link M) :
    (l.enqueue m).queue = if l.sending.isSome then l.queue ++ [m] else l.queue := by
  unfold Link.enqueue; split <;> rename_i h <;> simp [Link.start, h]

/-- A link that is not full stays within its limit. -/
theorem Link.enqueue_length {M : Type} {limit : Nat} (m : M) (l : Link M) (h : l.queue.length ≤ limit)
    (room : l.isFull limit = false) : (l.enqueue m).queue.length ≤ limit := by
  rw [Link.enqueue_queue]
  split
  · rename_i hs
    simp only [Link.isFull, hs, Bool.true_and, decide_eq_false_iff_not, Nat.not_le] at room
    simp only [List.length_append, List.length_cons, List.length_nil]; omega
  · exact h

/-! ### The Grid Link -/

/-- Handing a message to the GLC changes the Grid Link's queue, frame and idle timer and counts frame errors at most. -/
theorem gridHand_changes (m : GridMsg) (s : State) : ∃ l k,
    gridHand m s = { s with glc := { s.glc with link := l }, ntu := { s.ntu with counters := k } }
    ∧ l.up = s.glc.link.up ∧ l.silence = s.glc.link.silence ∧ l.held = s.glc.link.held := by
  simp only [gridHand]
  split
  · split
    · exact ⟨{ s.glc.link with queue := _ }, s.ntu.counters, rfl, rfl, rfl, rfl⟩
    · split
      · exact ⟨s.glc.link, _, rfl, rfl, rfl, rfl⟩
      · refine ⟨s.glc.link.enqueue m, s.ntu.counters, rfl, by simp, ?_, ?_⟩ <;>
          (unfold Link.enqueue; split <;> rfl)
  · exact ⟨s.glc.link, s.ntu.counters, rfl, rfl, rfl, rfl⟩

@[simp] theorem gridHand_pau (m : GridMsg) (s : State) : (gridHand m s).pau = s.pau := by
  obtain ⟨l, k, h, _⟩ := gridHand_changes m s; rw [h]
@[simp] theorem gridHand_bus (m : GridMsg) (s : State) : (gridHand m s).bus = s.bus := by
  obtain ⟨l, k, h, _⟩ := gridHand_changes m s; rw [h]
@[simp] theorem gridHand_ttu (m : GridMsg) (s : State) : (gridHand m s).ttu = s.ttu := by
  obtain ⟨l, k, h, _⟩ := gridHand_changes m s; rw [h]
@[simp] theorem gridHand_cdm (m : GridMsg) (s : State) : (gridHand m s).cdm = s.cdm := by
  obtain ⟨l, k, h, _⟩ := gridHand_changes m s; rw [h]
@[simp] theorem gridHand_wall (m : GridMsg) (s : State) : (gridHand m s).wall = s.wall := by
  obtain ⟨l, k, h, _⟩ := gridHand_changes m s; rw [h]
@[simp] theorem gridHand_lnc (m : GridMsg) (s : State) : (gridHand m s).lnc = s.lnc := by
  obtain ⟨l, k, h, _⟩ := gridHand_changes m s; rw [h]
@[simp] theorem gridHand_lastLent (m : GridMsg) (s : State) : (gridHand m s).lastLent = s.lastLent := by
  obtain ⟨l, k, h, _⟩ := gridHand_changes m s; rw [h]
@[simp] theorem gridHand_exposures (m : GridMsg) (s : State) : (gridHand m s).exposures = s.exposures := by
  obtain ⟨l, k, h, _⟩ := gridHand_changes m s; rw [h]
@[simp] theorem gridHand_mga (m : GridMsg) (s : State) : (gridHand m s).mga = s.mga := by
  obtain ⟨l, k, h, _⟩ := gridHand_changes m s; rw [h]
@[simp] theorem gridHand_blc (m : GridMsg) (s : State) : (gridHand m s).blc = s.blc := by
  obtain ⟨l, k, h, _⟩ := gridHand_changes m s; rw [h]
@[simp] theorem gridHand_freeCount (m : GridMsg) (s : State) : (gridHand m s).freeCount = s.freeCount := by
  obtain ⟨l, k, h, _⟩ := gridHand_changes m s; rw [h]
@[simp] theorem gridHand_pending (m : GridMsg) (s : State) : (gridHand m s).pending = s.pending := by
  obtain ⟨l, k, h, _⟩ := gridHand_changes m s; rw [h]
@[simp] theorem gridHand_events (m : GridMsg) (s : State) : (gridHand m s).ntu.events = s.ntu.events := by
  obtain ⟨l, k, h, _⟩ := gridHand_changes m s; rw [h]
@[simp] theorem gridHand_mask (m : GridMsg) (s : State) : (gridHand m s).ntu.mask = s.ntu.mask := by
  obtain ⟨l, k, h, _⟩ := gridHand_changes m s; rw [h]
@[simp] theorem gridHand_signals (m : GridMsg) (s : State) : (gridHand m s).ntu.signals = s.ntu.signals := by
  obtain ⟨l, k, h, _⟩ := gridHand_changes m s; rw [h]
@[simp] theorem gridHand_capture (m : GridMsg) (s : State) : (gridHand m s).ntu.capture = s.ntu.capture := by
  obtain ⟨l, k, h, _⟩ := gridHand_changes m s; rw [h]
@[simp] theorem gridHand_holds (m : GridMsg) (s : State) : (gridHand m s).glc.holds = s.glc.holds := by
  obtain ⟨l, k, h, _⟩ := gridHand_changes m s; rw [h]
@[simp] theorem gridHand_up (m : GridMsg) (s : State) : (gridHand m s).glc.link.up = s.glc.link.up := by
  obtain ⟨l, k, h, u, _⟩ := gridHand_changes m s; rw [h]; exact u

/-! ### The Bench Links -/

/-- What operations on the Bench Links leave: everything but the links' queues, frames and idle timers, and the counters. -/
structure BenchQueuesOnly (s t : State) : Prop where
  rest : t = { s with blc := t.blc, ntu := { s.ntu with counters := t.ntu.counters } }
  bench : ∀ b : Bench, t.bench b = { s.bench b with link := (t.bench b).link }
  up : ∀ b : Bench, (t.bench b).link.up = (s.bench b).link.up

theorem BenchQueuesOnly.refl (s : State) : BenchQueuesOnly s s := ⟨rfl, fun _ => rfl, fun _ => rfl⟩

theorem BenchQueuesOnly.trans {s t u : State} (a : BenchQueuesOnly s t) (b : BenchQueuesOnly t u) : BenchQueuesOnly s u :=
  ⟨by rw [b.rest, a.rest], fun x => by rw [b.bench, a.bench], fun x => by rw [b.up, a.up]⟩

theorem benchHand_only (b : Bench) (m : BenchMsg) (s : State) : BenchQueuesOnly s (benchHand b m s) := by
  simp only [benchHand]
  split
  · split
    · exact ⟨rfl, fun _ => rfl, fun _ => rfl⟩
    · refine ⟨rfl, fun d => ?_, fun d => ?_⟩
      · by_cases h : b = d
        · subst h; simp [setBenchLink]
        · simp [setBenchLink, setBench_bench_ne h]
      · by_cases h : b = d
        · subst h; simp [setBenchLink]
        · simp [setBenchLink, setBench_bench_ne h]
  · exact .refl s

theorem foldl_only {α : Type} (f : State → α → State) (h : ∀ t a, BenchQueuesOnly t (f t a)) (l : List α) :
    ∀ s, BenchQueuesOnly s (l.foldl f s) := by
  induction l with
  | nil => exact fun s => .refl s
  | cons a l ih => exact fun s => (h s a).trans (ih (f s a))

theorem portCue_only (p : Port) (c : Cue) (s : State) : BenchQueuesOnly s (portCue p c s) :=
  foldl_only _ (fun t b => benchHand_only b _ t) _ s

theorem showLine_only (p : Port) (l : Line) (s : State) : BenchQueuesOnly s (showLine p l s) := by
  unfold showLine
  split
  · split
    · exact benchHand_only _ _ s
    · exact .refl s
  · exact .refl s

theorem unshowLine_only (p : Port) (l : Line) (s : State) : BenchQueuesOnly s (unshowLine p l s) := by
  unfold unshowLine
  split
  · split
    · exact benchHand_only _ _ s
    · exact .refl s
  · exact .refl s

theorem closeCue_only (q : PutPos) (s : State) : BenchQueuesOnly s (closeCue q s) := benchHand_only _ _ s

/-- What answers and panel resets leave: as `BenchQueuesOnly`, and awaited messages. -/
structure PanelsOnly (s t : State) : Prop where
  rest : t = { s with blc := t.blc, ntu := { s.ntu with counters := t.ntu.counters } }
  bench : ∀ b : Bench, t.bench b = { s.bench b with link := (t.bench b).link, awaited := (t.bench b).awaited }
  up : ∀ b : Bench, (t.bench b).link.up = (s.bench b).link.up

theorem PanelsOnly.refl (s : State) : PanelsOnly s s := ⟨rfl, fun _ => rfl, fun _ => rfl⟩

theorem PanelsOnly.trans {s t u : State} (a : PanelsOnly s t) (b : PanelsOnly t u) : PanelsOnly s u :=
  ⟨by rw [b.rest, a.rest], fun x => by rw [b.bench, a.bench], fun x => by rw [b.up, a.up]⟩

theorem BenchQueuesOnly.panels {s t : State} (a : BenchQueuesOnly s t) : PanelsOnly s t :=
  ⟨a.rest, fun b => by rw [a.bench b], a.up⟩

theorem setAwaited_only (b : Bench) (a : Option Awaited) (s : State) : PanelsOnly s (setAwaited b a s) := by
  refine ⟨rfl, fun d => ?_, fun d => ?_⟩
  · by_cases h : b = d
    · subst h; simp [setAwaited]
    · simp [setAwaited, setBench_bench_ne h]
  · by_cases h : b = d
    · subst h; simp [setAwaited]
    · simp [setAwaited, setBench_bench_ne h]

theorem answer_only (b : Bench) (r : Reason) (s : State) : PanelsOnly s (answer b r s) := by
  unfold answer
  split
  · exact .refl s
  · exact (benchHand_only _ _ s).panels.trans (setAwaited_only _ _ _)

theorem answerPlace_only (q : PutPos) (r : Reason) (s : State) : PanelsOnly s (answerPlace q r s) := by
  unfold answerPlace
  split
  · exact .refl s
  · split
    · exact answer_only _ _ s
    · exact .refl s

theorem panelReset_only (b : Bench) (s : State) : PanelsOnly s (panelReset b s) := by
  simp only [panelReset]
  split
  · exact (benchHand_only _ _ s).panels.trans (setAwaited_only _ _ _)
  · exact .refl s

theorem foldl_panels {α : Type} (f : State → α → State) (h : ∀ t a, PanelsOnly t (f t a)) (l : List α) :
    ∀ s, PanelsOnly s (l.foldl f s) := by
  induction l with
  | nil => exact fun s => .refl s
  | cons a l ih => exact fun s => (h s a).trans (ih (f s a))

theorem panelResets_only (s : State) : PanelsOnly s (panelResets s) := foldl_panels _ (fun t b => panelReset_only b t) _ s

/-! ### Frames of the panel operations -/

@[simp] theorem benchHand_pau (b : Bench) (m : BenchMsg) (s : State) : (benchHand b m s).pau = s.pau := by
  rw [(benchHand_only b m s).rest]
@[simp] theorem benchHand_bus (b : Bench) (m : BenchMsg) (s : State) : (benchHand b m s).bus = s.bus := by
  rw [(benchHand_only b m s).rest]
@[simp] theorem benchHand_ttu (b : Bench) (m : BenchMsg) (s : State) : (benchHand b m s).ttu = s.ttu := by
  rw [(benchHand_only b m s).rest]
@[simp] theorem benchHand_cdm (b : Bench) (m : BenchMsg) (s : State) : (benchHand b m s).cdm = s.cdm := by
  rw [(benchHand_only b m s).rest]
@[simp] theorem benchHand_wall (b : Bench) (m : BenchMsg) (s : State) : (benchHand b m s).wall = s.wall := by
  rw [(benchHand_only b m s).rest]
@[simp] theorem benchHand_lnc (b : Bench) (m : BenchMsg) (s : State) : (benchHand b m s).lnc = s.lnc := by
  rw [(benchHand_only b m s).rest]
@[simp] theorem benchHand_lastLent (b : Bench) (m : BenchMsg) (s : State) : (benchHand b m s).lastLent = s.lastLent := by
  rw [(benchHand_only b m s).rest]
@[simp] theorem benchHand_exposures (b : Bench) (m : BenchMsg) (s : State) : (benchHand b m s).exposures = s.exposures := by
  rw [(benchHand_only b m s).rest]
@[simp] theorem benchHand_mga (b : Bench) (m : BenchMsg) (s : State) : (benchHand b m s).mga = s.mga := by
  rw [(benchHand_only b m s).rest]
@[simp] theorem benchHand_glc (b : Bench) (m : BenchMsg) (s : State) : (benchHand b m s).glc = s.glc := by
  rw [(benchHand_only b m s).rest]
@[simp] theorem benchHand_freeCount (b : Bench) (m : BenchMsg) (s : State) : (benchHand b m s).freeCount = s.freeCount := by
  rw [(benchHand_only b m s).rest]
@[simp] theorem benchHand_pending (b : Bench) (m : BenchMsg) (s : State) : (benchHand b m s).pending = s.pending := by
  rw [(benchHand_only b m s).rest]
@[simp] theorem benchHand_events (b : Bench) (m : BenchMsg) (s : State) : (benchHand b m s).ntu.events = s.ntu.events := by
  rw [(benchHand_only b m s).rest]
@[simp] theorem benchHand_mask (b : Bench) (m : BenchMsg) (s : State) : (benchHand b m s).ntu.mask = s.ntu.mask := by
  rw [(benchHand_only b m s).rest]
@[simp] theorem benchHand_signals (b : Bench) (m : BenchMsg) (s : State) : (benchHand b m s).ntu.signals = s.ntu.signals := by
  rw [(benchHand_only b m s).rest]
@[simp] theorem benchHand_capture (b : Bench) (m : BenchMsg) (s : State) : (benchHand b m s).ntu.capture = s.ntu.capture := by
  rw [(benchHand_only b m s).rest]

@[simp] theorem portCue_pau (p : Port) (c : Cue) (s : State) : (portCue p c s).pau = s.pau := by
  rw [(portCue_only p c s).rest]
@[simp] theorem portCue_bus (p : Port) (c : Cue) (s : State) : (portCue p c s).bus = s.bus := by
  rw [(portCue_only p c s).rest]
@[simp] theorem portCue_ttu (p : Port) (c : Cue) (s : State) : (portCue p c s).ttu = s.ttu := by
  rw [(portCue_only p c s).rest]
@[simp] theorem portCue_cdm (p : Port) (c : Cue) (s : State) : (portCue p c s).cdm = s.cdm := by
  rw [(portCue_only p c s).rest]
@[simp] theorem portCue_wall (p : Port) (c : Cue) (s : State) : (portCue p c s).wall = s.wall := by
  rw [(portCue_only p c s).rest]
@[simp] theorem portCue_lnc (p : Port) (c : Cue) (s : State) : (portCue p c s).lnc = s.lnc := by
  rw [(portCue_only p c s).rest]
@[simp] theorem portCue_lastLent (p : Port) (c : Cue) (s : State) : (portCue p c s).lastLent = s.lastLent := by
  rw [(portCue_only p c s).rest]
@[simp] theorem portCue_exposures (p : Port) (c : Cue) (s : State) : (portCue p c s).exposures = s.exposures := by
  rw [(portCue_only p c s).rest]
@[simp] theorem portCue_mga (p : Port) (c : Cue) (s : State) : (portCue p c s).mga = s.mga := by
  rw [(portCue_only p c s).rest]
@[simp] theorem portCue_glc (p : Port) (c : Cue) (s : State) : (portCue p c s).glc = s.glc := by
  rw [(portCue_only p c s).rest]
@[simp] theorem portCue_freeCount (p : Port) (c : Cue) (s : State) : (portCue p c s).freeCount = s.freeCount := by
  rw [(portCue_only p c s).rest]
@[simp] theorem portCue_pending (p : Port) (c : Cue) (s : State) : (portCue p c s).pending = s.pending := by
  rw [(portCue_only p c s).rest]
@[simp] theorem portCue_events (p : Port) (c : Cue) (s : State) : (portCue p c s).ntu.events = s.ntu.events := by
  rw [(portCue_only p c s).rest]
@[simp] theorem portCue_mask (p : Port) (c : Cue) (s : State) : (portCue p c s).ntu.mask = s.ntu.mask := by
  rw [(portCue_only p c s).rest]
@[simp] theorem portCue_signals (p : Port) (c : Cue) (s : State) : (portCue p c s).ntu.signals = s.ntu.signals := by
  rw [(portCue_only p c s).rest]
@[simp] theorem portCue_capture (p : Port) (c : Cue) (s : State) : (portCue p c s).ntu.capture = s.ntu.capture := by
  rw [(portCue_only p c s).rest]

@[simp] theorem showLine_pau (p : Port) (l : Line) (s : State) : (showLine p l s).pau = s.pau := by
  rw [(showLine_only p l s).rest]
@[simp] theorem showLine_bus (p : Port) (l : Line) (s : State) : (showLine p l s).bus = s.bus := by
  rw [(showLine_only p l s).rest]
@[simp] theorem showLine_ttu (p : Port) (l : Line) (s : State) : (showLine p l s).ttu = s.ttu := by
  rw [(showLine_only p l s).rest]
@[simp] theorem showLine_cdm (p : Port) (l : Line) (s : State) : (showLine p l s).cdm = s.cdm := by
  rw [(showLine_only p l s).rest]
@[simp] theorem showLine_wall (p : Port) (l : Line) (s : State) : (showLine p l s).wall = s.wall := by
  rw [(showLine_only p l s).rest]
@[simp] theorem showLine_lnc (p : Port) (l : Line) (s : State) : (showLine p l s).lnc = s.lnc := by
  rw [(showLine_only p l s).rest]
@[simp] theorem showLine_lastLent (p : Port) (l : Line) (s : State) : (showLine p l s).lastLent = s.lastLent := by
  rw [(showLine_only p l s).rest]
@[simp] theorem showLine_exposures (p : Port) (l : Line) (s : State) : (showLine p l s).exposures = s.exposures := by
  rw [(showLine_only p l s).rest]
@[simp] theorem showLine_mga (p : Port) (l : Line) (s : State) : (showLine p l s).mga = s.mga := by
  rw [(showLine_only p l s).rest]
@[simp] theorem showLine_glc (p : Port) (l : Line) (s : State) : (showLine p l s).glc = s.glc := by
  rw [(showLine_only p l s).rest]
@[simp] theorem showLine_freeCount (p : Port) (l : Line) (s : State) : (showLine p l s).freeCount = s.freeCount := by
  rw [(showLine_only p l s).rest]
@[simp] theorem showLine_pending (p : Port) (l : Line) (s : State) : (showLine p l s).pending = s.pending := by
  rw [(showLine_only p l s).rest]
@[simp] theorem showLine_events (p : Port) (l : Line) (s : State) : (showLine p l s).ntu.events = s.ntu.events := by
  rw [(showLine_only p l s).rest]
@[simp] theorem showLine_mask (p : Port) (l : Line) (s : State) : (showLine p l s).ntu.mask = s.ntu.mask := by
  rw [(showLine_only p l s).rest]
@[simp] theorem showLine_signals (p : Port) (l : Line) (s : State) : (showLine p l s).ntu.signals = s.ntu.signals := by
  rw [(showLine_only p l s).rest]
@[simp] theorem showLine_capture (p : Port) (l : Line) (s : State) : (showLine p l s).ntu.capture = s.ntu.capture := by
  rw [(showLine_only p l s).rest]

@[simp] theorem unshowLine_pau (p : Port) (l : Line) (s : State) : (unshowLine p l s).pau = s.pau := by
  rw [(unshowLine_only p l s).rest]
@[simp] theorem unshowLine_bus (p : Port) (l : Line) (s : State) : (unshowLine p l s).bus = s.bus := by
  rw [(unshowLine_only p l s).rest]
@[simp] theorem unshowLine_ttu (p : Port) (l : Line) (s : State) : (unshowLine p l s).ttu = s.ttu := by
  rw [(unshowLine_only p l s).rest]
@[simp] theorem unshowLine_cdm (p : Port) (l : Line) (s : State) : (unshowLine p l s).cdm = s.cdm := by
  rw [(unshowLine_only p l s).rest]
@[simp] theorem unshowLine_wall (p : Port) (l : Line) (s : State) : (unshowLine p l s).wall = s.wall := by
  rw [(unshowLine_only p l s).rest]
@[simp] theorem unshowLine_lnc (p : Port) (l : Line) (s : State) : (unshowLine p l s).lnc = s.lnc := by
  rw [(unshowLine_only p l s).rest]
@[simp] theorem unshowLine_lastLent (p : Port) (l : Line) (s : State) : (unshowLine p l s).lastLent = s.lastLent := by
  rw [(unshowLine_only p l s).rest]
@[simp] theorem unshowLine_exposures (p : Port) (l : Line) (s : State) : (unshowLine p l s).exposures = s.exposures := by
  rw [(unshowLine_only p l s).rest]
@[simp] theorem unshowLine_mga (p : Port) (l : Line) (s : State) : (unshowLine p l s).mga = s.mga := by
  rw [(unshowLine_only p l s).rest]
@[simp] theorem unshowLine_glc (p : Port) (l : Line) (s : State) : (unshowLine p l s).glc = s.glc := by
  rw [(unshowLine_only p l s).rest]
@[simp] theorem unshowLine_freeCount (p : Port) (l : Line) (s : State) : (unshowLine p l s).freeCount = s.freeCount := by
  rw [(unshowLine_only p l s).rest]
@[simp] theorem unshowLine_pending (p : Port) (l : Line) (s : State) : (unshowLine p l s).pending = s.pending := by
  rw [(unshowLine_only p l s).rest]
@[simp] theorem unshowLine_events (p : Port) (l : Line) (s : State) : (unshowLine p l s).ntu.events = s.ntu.events := by
  rw [(unshowLine_only p l s).rest]
@[simp] theorem unshowLine_mask (p : Port) (l : Line) (s : State) : (unshowLine p l s).ntu.mask = s.ntu.mask := by
  rw [(unshowLine_only p l s).rest]
@[simp] theorem unshowLine_signals (p : Port) (l : Line) (s : State) : (unshowLine p l s).ntu.signals = s.ntu.signals := by
  rw [(unshowLine_only p l s).rest]
@[simp] theorem unshowLine_capture (p : Port) (l : Line) (s : State) : (unshowLine p l s).ntu.capture = s.ntu.capture := by
  rw [(unshowLine_only p l s).rest]

@[simp] theorem closeCue_pau (q : PutPos) (s : State) : (closeCue q s).pau = s.pau := by
  rw [(closeCue_only q s).rest]
@[simp] theorem closeCue_bus (q : PutPos) (s : State) : (closeCue q s).bus = s.bus := by
  rw [(closeCue_only q s).rest]
@[simp] theorem closeCue_ttu (q : PutPos) (s : State) : (closeCue q s).ttu = s.ttu := by
  rw [(closeCue_only q s).rest]
@[simp] theorem closeCue_cdm (q : PutPos) (s : State) : (closeCue q s).cdm = s.cdm := by
  rw [(closeCue_only q s).rest]
@[simp] theorem closeCue_wall (q : PutPos) (s : State) : (closeCue q s).wall = s.wall := by
  rw [(closeCue_only q s).rest]
@[simp] theorem closeCue_lnc (q : PutPos) (s : State) : (closeCue q s).lnc = s.lnc := by
  rw [(closeCue_only q s).rest]
@[simp] theorem closeCue_lastLent (q : PutPos) (s : State) : (closeCue q s).lastLent = s.lastLent := by
  rw [(closeCue_only q s).rest]
@[simp] theorem closeCue_exposures (q : PutPos) (s : State) : (closeCue q s).exposures = s.exposures := by
  rw [(closeCue_only q s).rest]
@[simp] theorem closeCue_mga (q : PutPos) (s : State) : (closeCue q s).mga = s.mga := by
  rw [(closeCue_only q s).rest]
@[simp] theorem closeCue_glc (q : PutPos) (s : State) : (closeCue q s).glc = s.glc := by
  rw [(closeCue_only q s).rest]
@[simp] theorem closeCue_freeCount (q : PutPos) (s : State) : (closeCue q s).freeCount = s.freeCount := by
  rw [(closeCue_only q s).rest]
@[simp] theorem closeCue_pending (q : PutPos) (s : State) : (closeCue q s).pending = s.pending := by
  rw [(closeCue_only q s).rest]
@[simp] theorem closeCue_events (q : PutPos) (s : State) : (closeCue q s).ntu.events = s.ntu.events := by
  rw [(closeCue_only q s).rest]
@[simp] theorem closeCue_mask (q : PutPos) (s : State) : (closeCue q s).ntu.mask = s.ntu.mask := by
  rw [(closeCue_only q s).rest]
@[simp] theorem closeCue_signals (q : PutPos) (s : State) : (closeCue q s).ntu.signals = s.ntu.signals := by
  rw [(closeCue_only q s).rest]
@[simp] theorem closeCue_capture (q : PutPos) (s : State) : (closeCue q s).ntu.capture = s.ntu.capture := by
  rw [(closeCue_only q s).rest]

@[simp] theorem answer_pau (b : Bench) (r : Reason) (s : State) : (answer b r s).pau = s.pau := by
  rw [(answer_only b r s).rest]
@[simp] theorem answer_bus (b : Bench) (r : Reason) (s : State) : (answer b r s).bus = s.bus := by
  rw [(answer_only b r s).rest]
@[simp] theorem answer_ttu (b : Bench) (r : Reason) (s : State) : (answer b r s).ttu = s.ttu := by
  rw [(answer_only b r s).rest]
@[simp] theorem answer_cdm (b : Bench) (r : Reason) (s : State) : (answer b r s).cdm = s.cdm := by
  rw [(answer_only b r s).rest]
@[simp] theorem answer_wall (b : Bench) (r : Reason) (s : State) : (answer b r s).wall = s.wall := by
  rw [(answer_only b r s).rest]
@[simp] theorem answer_lnc (b : Bench) (r : Reason) (s : State) : (answer b r s).lnc = s.lnc := by
  rw [(answer_only b r s).rest]
@[simp] theorem answer_lastLent (b : Bench) (r : Reason) (s : State) : (answer b r s).lastLent = s.lastLent := by
  rw [(answer_only b r s).rest]
@[simp] theorem answer_exposures (b : Bench) (r : Reason) (s : State) : (answer b r s).exposures = s.exposures := by
  rw [(answer_only b r s).rest]
@[simp] theorem answer_mga (b : Bench) (r : Reason) (s : State) : (answer b r s).mga = s.mga := by
  rw [(answer_only b r s).rest]
@[simp] theorem answer_glc (b : Bench) (r : Reason) (s : State) : (answer b r s).glc = s.glc := by
  rw [(answer_only b r s).rest]
@[simp] theorem answer_freeCount (b : Bench) (r : Reason) (s : State) : (answer b r s).freeCount = s.freeCount := by
  rw [(answer_only b r s).rest]
@[simp] theorem answer_pending (b : Bench) (r : Reason) (s : State) : (answer b r s).pending = s.pending := by
  rw [(answer_only b r s).rest]
@[simp] theorem answer_events (b : Bench) (r : Reason) (s : State) : (answer b r s).ntu.events = s.ntu.events := by
  rw [(answer_only b r s).rest]
@[simp] theorem answer_mask (b : Bench) (r : Reason) (s : State) : (answer b r s).ntu.mask = s.ntu.mask := by
  rw [(answer_only b r s).rest]
@[simp] theorem answer_signals (b : Bench) (r : Reason) (s : State) : (answer b r s).ntu.signals = s.ntu.signals := by
  rw [(answer_only b r s).rest]
@[simp] theorem answer_capture (b : Bench) (r : Reason) (s : State) : (answer b r s).ntu.capture = s.ntu.capture := by
  rw [(answer_only b r s).rest]

@[simp] theorem answerPlace_pau (q : PutPos) (r : Reason) (s : State) : (answerPlace q r s).pau = s.pau := by
  rw [(answerPlace_only q r s).rest]
@[simp] theorem answerPlace_bus (q : PutPos) (r : Reason) (s : State) : (answerPlace q r s).bus = s.bus := by
  rw [(answerPlace_only q r s).rest]
@[simp] theorem answerPlace_ttu (q : PutPos) (r : Reason) (s : State) : (answerPlace q r s).ttu = s.ttu := by
  rw [(answerPlace_only q r s).rest]
@[simp] theorem answerPlace_cdm (q : PutPos) (r : Reason) (s : State) : (answerPlace q r s).cdm = s.cdm := by
  rw [(answerPlace_only q r s).rest]
@[simp] theorem answerPlace_wall (q : PutPos) (r : Reason) (s : State) : (answerPlace q r s).wall = s.wall := by
  rw [(answerPlace_only q r s).rest]
@[simp] theorem answerPlace_lnc (q : PutPos) (r : Reason) (s : State) : (answerPlace q r s).lnc = s.lnc := by
  rw [(answerPlace_only q r s).rest]
@[simp] theorem answerPlace_lastLent (q : PutPos) (r : Reason) (s : State) : (answerPlace q r s).lastLent = s.lastLent := by
  rw [(answerPlace_only q r s).rest]
@[simp] theorem answerPlace_exposures (q : PutPos) (r : Reason) (s : State) : (answerPlace q r s).exposures = s.exposures := by
  rw [(answerPlace_only q r s).rest]
@[simp] theorem answerPlace_mga (q : PutPos) (r : Reason) (s : State) : (answerPlace q r s).mga = s.mga := by
  rw [(answerPlace_only q r s).rest]
@[simp] theorem answerPlace_glc (q : PutPos) (r : Reason) (s : State) : (answerPlace q r s).glc = s.glc := by
  rw [(answerPlace_only q r s).rest]
@[simp] theorem answerPlace_freeCount (q : PutPos) (r : Reason) (s : State) : (answerPlace q r s).freeCount = s.freeCount := by
  rw [(answerPlace_only q r s).rest]
@[simp] theorem answerPlace_pending (q : PutPos) (r : Reason) (s : State) : (answerPlace q r s).pending = s.pending := by
  rw [(answerPlace_only q r s).rest]
@[simp] theorem answerPlace_events (q : PutPos) (r : Reason) (s : State) : (answerPlace q r s).ntu.events = s.ntu.events := by
  rw [(answerPlace_only q r s).rest]
@[simp] theorem answerPlace_mask (q : PutPos) (r : Reason) (s : State) : (answerPlace q r s).ntu.mask = s.ntu.mask := by
  rw [(answerPlace_only q r s).rest]
@[simp] theorem answerPlace_signals (q : PutPos) (r : Reason) (s : State) : (answerPlace q r s).ntu.signals = s.ntu.signals := by
  rw [(answerPlace_only q r s).rest]
@[simp] theorem answerPlace_capture (q : PutPos) (r : Reason) (s : State) : (answerPlace q r s).ntu.capture = s.ntu.capture := by
  rw [(answerPlace_only q r s).rest]

@[simp] theorem panelReset_pau (b : Bench) (s : State) : (panelReset b s).pau = s.pau := by
  rw [(panelReset_only b s).rest]
@[simp] theorem panelReset_bus (b : Bench) (s : State) : (panelReset b s).bus = s.bus := by
  rw [(panelReset_only b s).rest]
@[simp] theorem panelReset_ttu (b : Bench) (s : State) : (panelReset b s).ttu = s.ttu := by
  rw [(panelReset_only b s).rest]
@[simp] theorem panelReset_cdm (b : Bench) (s : State) : (panelReset b s).cdm = s.cdm := by
  rw [(panelReset_only b s).rest]
@[simp] theorem panelReset_wall (b : Bench) (s : State) : (panelReset b s).wall = s.wall := by
  rw [(panelReset_only b s).rest]
@[simp] theorem panelReset_lnc (b : Bench) (s : State) : (panelReset b s).lnc = s.lnc := by
  rw [(panelReset_only b s).rest]
@[simp] theorem panelReset_lastLent (b : Bench) (s : State) : (panelReset b s).lastLent = s.lastLent := by
  rw [(panelReset_only b s).rest]
@[simp] theorem panelReset_exposures (b : Bench) (s : State) : (panelReset b s).exposures = s.exposures := by
  rw [(panelReset_only b s).rest]
@[simp] theorem panelReset_mga (b : Bench) (s : State) : (panelReset b s).mga = s.mga := by
  rw [(panelReset_only b s).rest]
@[simp] theorem panelReset_glc (b : Bench) (s : State) : (panelReset b s).glc = s.glc := by
  rw [(panelReset_only b s).rest]
@[simp] theorem panelReset_freeCount (b : Bench) (s : State) : (panelReset b s).freeCount = s.freeCount := by
  rw [(panelReset_only b s).rest]
@[simp] theorem panelReset_pending (b : Bench) (s : State) : (panelReset b s).pending = s.pending := by
  rw [(panelReset_only b s).rest]
@[simp] theorem panelReset_events (b : Bench) (s : State) : (panelReset b s).ntu.events = s.ntu.events := by
  rw [(panelReset_only b s).rest]
@[simp] theorem panelReset_mask (b : Bench) (s : State) : (panelReset b s).ntu.mask = s.ntu.mask := by
  rw [(panelReset_only b s).rest]
@[simp] theorem panelReset_signals (b : Bench) (s : State) : (panelReset b s).ntu.signals = s.ntu.signals := by
  rw [(panelReset_only b s).rest]
@[simp] theorem panelReset_capture (b : Bench) (s : State) : (panelReset b s).ntu.capture = s.ntu.capture := by
  rw [(panelReset_only b s).rest]

@[simp] theorem panelResets_pau (s : State) : (panelResets s).pau = s.pau := by
  rw [(panelResets_only s).rest]
@[simp] theorem panelResets_bus (s : State) : (panelResets s).bus = s.bus := by
  rw [(panelResets_only s).rest]
@[simp] theorem panelResets_ttu (s : State) : (panelResets s).ttu = s.ttu := by
  rw [(panelResets_only s).rest]
@[simp] theorem panelResets_cdm (s : State) : (panelResets s).cdm = s.cdm := by
  rw [(panelResets_only s).rest]
@[simp] theorem panelResets_wall (s : State) : (panelResets s).wall = s.wall := by
  rw [(panelResets_only s).rest]
@[simp] theorem panelResets_lnc (s : State) : (panelResets s).lnc = s.lnc := by
  rw [(panelResets_only s).rest]
@[simp] theorem panelResets_lastLent (s : State) : (panelResets s).lastLent = s.lastLent := by
  rw [(panelResets_only s).rest]
@[simp] theorem panelResets_exposures (s : State) : (panelResets s).exposures = s.exposures := by
  rw [(panelResets_only s).rest]
@[simp] theorem panelResets_mga (s : State) : (panelResets s).mga = s.mga := by
  rw [(panelResets_only s).rest]
@[simp] theorem panelResets_glc (s : State) : (panelResets s).glc = s.glc := by
  rw [(panelResets_only s).rest]
@[simp] theorem panelResets_freeCount (s : State) : (panelResets s).freeCount = s.freeCount := by
  rw [(panelResets_only s).rest]
@[simp] theorem panelResets_pending (s : State) : (panelResets s).pending = s.pending := by
  rw [(panelResets_only s).rest]
@[simp] theorem panelResets_events (s : State) : (panelResets s).ntu.events = s.ntu.events := by
  rw [(panelResets_only s).rest]
@[simp] theorem panelResets_mask (s : State) : (panelResets s).ntu.mask = s.ntu.mask := by
  rw [(panelResets_only s).rest]
@[simp] theorem panelResets_signals (s : State) : (panelResets s).ntu.signals = s.ntu.signals := by
  rw [(panelResets_only s).rest]
@[simp] theorem panelResets_capture (s : State) : (panelResets s).ntu.capture = s.ntu.capture := by
  rw [(panelResets_only s).rest]

end Sys2Proof.Machine
end

