-- ==== Sys2Proof/Laws/Lanes.lean ====
section
/-! SUPPORT. What the operations on lane heads can change: lanes, release requests, the counters and the Bench Links' queues. -/

namespace Sys2Proof.Machine

/-- What operations on lane heads leave. -/
structure LanesOnly (s t : State) : Prop where
  rest : t = { s with
    lnc := { s.lnc with lanes := t.lnc.lanes }
    mga := { s.mga with requests := t.mga.requests }
    blc := t.blc
    ntu := { s.ntu with counters := t.ntu.counters } }
  bench : ∀ b : Bench, t.bench b = { s.bench b with link := (t.bench b).link }
  up : ∀ b : Bench, (t.bench b).link.up = (s.bench b).link.up

theorem LanesOnly.refl (s : State) : LanesOnly s s := ⟨rfl, fun _ => rfl, fun _ => rfl⟩

theorem LanesOnly.trans {s t u : State} (a : LanesOnly s t) (b : LanesOnly t u) : LanesOnly s u :=
  ⟨by rw [b.rest, a.rest], fun x => by rw [b.bench, a.bench], fun x => by rw [b.up, a.up]⟩

theorem BenchQueuesOnly.lanes {s t : State} (a : BenchQueuesOnly s t) : LanesOnly s t :=
  ⟨by rw [a.rest], a.bench, a.up⟩

theorem lanes_foldl {α : Type} (f : State → α → State) (h : ∀ t a, LanesOnly t (f t a)) (l : List α) :
    ∀ s, LanesOnly s (l.foldl f s) := by
  induction l with
  | nil => exact fun s => .refl s
  | cons a l ih => exact fun s => (h s a).trans (ih (f s a))

theorem lanes_setHead (p : Port) (e : Entry) (s : State) : LanesOnly s (setHead p e s) :=
  ⟨rfl, fun _ => rfl, fun _ => rfl⟩

theorem lanes_setHeadCard (p : Port) (e : Entry) (c : CardCtx) (st : EntryState) (s : State) :
    LanesOnly s (setHeadCard p e c st s) := lanes_setHead _ _ s

theorem lanes_count (f : Counters → Counters) (s : State) : LanesOnly s (count f s) := ⟨rfl, fun _ => rfl, fun _ => rfl⟩

theorem lanes_countBench (b : Bench) (f : BenchCounters → BenchCounters) (s : State) : LanesOnly s (countBench b f s) :=
  ⟨rfl, fun _ => rfl, fun _ => rfl⟩

theorem lanes_linesCut (b : Bench) (n : Nat) (s : State) : LanesOnly s (linesCut b n s) := lanes_countBench _ _ s

theorem lanes_countDwell (b : Bench) (d : Nat) (s : State) : LanesOnly s (countDwell b d s) := lanes_countBench _ _ s

theorem lanes_requestRelease (p : Port) (e : Entry) (s : State) : LanesOnly s (requestRelease p e s) :=
  ⟨rfl, fun _ => rfl, fun _ => rfl⟩

theorem lanes_countLinesCut (ls : List Line) (s : State) : LanesOnly s (countLinesCut ls s) := by
  refine lanes_foldl _ (fun t l => ?_) ls s
  split
  · exact lanes_linesCut _ _ t
  · exact .refl t

theorem lanes_resolveHead (p : Port) (sel : Line → Bool) (r : LineResult) (s : State) :
    LanesOnly s (resolveHead p sel r s) := by
  unfold resolveHead
  split
  · exact .refl s
  · exact (lanes_setHeadCard _ _ _ _ s).trans (lanes_foldl _ (fun t l => (unshowLine_only p l t).lanes) _ _)

theorem lanes_endHead (p : Port) (un : CardResult) (byRecall : Bool) (s : State) : LanesOnly s (endHead p un byRecall s) := by
  unfold endHead
  split
  · exact .refl s
  · split
    · exact (lanes_setHead _ _ s).trans (lanes_requestRelease _ _ _)
    · split
      · exact (lanes_setHead _ _ s).trans (lanes_requestRelease _ _ _)
      · exact ((lanes_setHead _ _ s).trans (lanes_requestRelease _ _ _)).trans (lanes_countDwell _ _ _)

theorem lanes_endWith (p : Port) (un : CardResult) (lr : LineResult) (byRecall : Bool) (s : State) :
    LanesOnly s (endWith p un lr byRecall s) := (lanes_resolveHead _ _ _ s).trans (lanes_endHead _ _ _ _)

theorem lanes_settleEntry (p : Port) (s : State) : LanesOnly s (settleEntry p s) := by
  unfold settleEntry
  split
  · exact .refl s
  · split
    · exact lanes_endHead _ _ _ s
    · split <;> exact lanes_setHead _ _ s

theorem lanes_questionHead (p : Port) (sel : Line → Bool) (s : State) : LanesOnly s (questionHead p sel s) := by
  unfold questionHead
  split
  · exact .refl s
  · refine (lanes_setHeadCard _ _ _ _ s).trans (lanes_foldl _ (fun t l => ?_) _ _)
    unfold questionEffect
    split
    · exact lanes_countLinesCut _ t
    · exact (showLine_only p l t).lanes

theorem lanes_presentFirst (p : Port) (s : State) : LanesOnly s (presentFirst p s) := by
  unfold presentFirst
  split
  · exact .refl s
  · exact (((lanes_setHeadCard _ _ _ _ s).trans (lanes_countBench _ _ _)).trans (lanes_questionHead _ _ _)).trans
      (lanes_settleEntry _ _)

theorem lanes_dockHead (p : Port) (s : State) : LanesOnly s (dockHead p s) := by
  unfold dockHead
  split
  · exact lanes_endHead _ _ _ s
  · split
    · exact lanes_endWith _ _ _ _ s
    · split
      · exact lanes_endWith _ _ _ _ s
      · split
        · exact lanes_endWith _ _ _ _ s
        · split
          · exact lanes_presentFirst _ s
          · exact lanes_setHead _ _ s

theorem lanes_withdrawAcceptance (j : Nat) (lr : LineResult) (s : State) : LanesOnly s (withdrawAcceptance j lr s) := by
  refine lanes_foldl _ (fun t p => ?_) _ s
  simp only [withdrawAcceptanceAt]
  split
  · exact .refl t
  · split
    · exact .refl t
    · exact ((lanes_resolveHead _ _ _ t).trans (lanes_countLinesCut _ _)).trans (lanes_settleEntry _ _)

theorem lanes_darkenHead (b : Bench) (p : Port) (s : State) : LanesOnly s (darkenHead b p s) := by
  simp only [darkenHead]
  split
  · exact .refl s
  · split
    · exact ((lanes_setHeadCard _ _ _ _ s).trans (lanes_foldl _ (fun t l => (unshowLine_only p l t).lanes) _ _)).trans
        (lanes_settleEntry _ _)
    · exact .refl s

theorem lanes_relightHead (b : Bench) (p : Port) (s : State) : LanesOnly s (relightHead b p s) := by
  unfold relightHead
  split
  · exact .refl s
  · split
    · split
      · exact (lanes_questionHead _ _ s).trans (lanes_settleEntry _ _)
      · exact .refl s
    · split
      · exact lanes_presentFirst _ s
      · exact .refl s

theorem lanes_closeHead (b : Bench) (p : Port) (s : State) : LanesOnly s (closeHead b p s) := by
  unfold closeHead
  split
  · exact .refl s
  · split
    · exact ((lanes_resolveHead _ _ _ s).trans (lanes_countLinesCut _ _)).trans (lanes_settleEntry _ _)
    · split
      · exact lanes_endWith _ _ _ _ s
      · exact .refl s

theorem lanes_withdrawHead (card : Nat) (seq : Word) (p : Port) (s : State) : LanesOnly s (withdrawHead card seq p s) := by
  unfold withdrawHead
  split
  · exact .refl s
  · split
    · exact lanes_endWith _ _ _ _ s
    · exact .refl s

theorem lanes_recallHead (card : Nat) (seq : Word) (p : Port) (s : State) : LanesOnly s (recallHead card seq p s) := by
  unfold recallHead
  split
  · exact .refl s
  · split
    · split
      · exact lanes_endWith _ _ _ _ s
      · exact lanes_endWith _ _ _ _ s
      · exact ⟨rfl, fun _ => rfl, fun _ => rfl⟩
      · exact .refl s
    · exact .refl s

/-! ### Frames -/

@[simp] theorem settleEntry_pau (p : Port) (s : State) :
    (settleEntry p s).pau = s.pau := by
  rw [(lanes_settleEntry p s).rest]
@[simp] theorem settleEntry_bus (p : Port) (s : State) :
    (settleEntry p s).bus = s.bus := by
  rw [(lanes_settleEntry p s).rest]
@[simp] theorem settleEntry_ttu (p : Port) (s : State) :
    (settleEntry p s).ttu = s.ttu := by
  rw [(lanes_settleEntry p s).rest]
@[simp] theorem settleEntry_cdm (p : Port) (s : State) :
    (settleEntry p s).cdm = s.cdm := by
  rw [(lanes_settleEntry p s).rest]
@[simp] theorem settleEntry_wall (p : Port) (s : State) :
    (settleEntry p s).wall = s.wall := by
  rw [(lanes_settleEntry p s).rest]
@[simp] theorem settleEntry_lastLent (p : Port) (s : State) :
    (settleEntry p s).lastLent = s.lastLent := by
  rw [(lanes_settleEntry p s).rest]
@[simp] theorem settleEntry_exposures (p : Port) (s : State) :
    (settleEntry p s).exposures = s.exposures := by
  rw [(lanes_settleEntry p s).rest]
@[simp] theorem settleEntry_glc (p : Port) (s : State) :
    (settleEntry p s).glc = s.glc := by
  rw [(lanes_settleEntry p s).rest]
@[simp] theorem settleEntry_freeCount (p : Port) (s : State) :
    (settleEntry p s).freeCount = s.freeCount := by
  rw [(lanes_settleEntry p s).rest]
@[simp] theorem settleEntry_pending (p : Port) (s : State) :
    (settleEntry p s).pending = s.pending := by
  rw [(lanes_settleEntry p s).rest]
@[simp] theorem settleEntry_events (p : Port) (s : State) :
    (settleEntry p s).ntu.events = s.ntu.events := by
  rw [(lanes_settleEntry p s).rest]
@[simp] theorem settleEntry_capture (p : Port) (s : State) :
    (settleEntry p s).ntu.capture = s.ntu.capture := by
  rw [(lanes_settleEntry p s).rest]
@[simp] theorem settleEntry_calls (p : Port) (s : State) :
    (settleEntry p s).lnc.calls = s.lnc.calls := by
  rw [(lanes_settleEntry p s).rest]
@[simp] theorem settleEntry_merge (p : Port) (s : State) :
    (settleEntry p s).mga.merge = s.mga.merge := by
  rw [(lanes_settleEntry p s).rest]
@[simp] theorem settleEntry_holdTimer (p : Port) (s : State) :
    (settleEntry p s).mga.holdTimer = s.mga.holdTimer := by
  rw [(lanes_settleEntry p s).rest]

@[simp] theorem withdrawAcceptance_pau (j : Nat) (lr : LineResult) (s : State) :
    (withdrawAcceptance j lr s).pau = s.pau := by
  rw [(lanes_withdrawAcceptance j lr s).rest]
@[simp] theorem withdrawAcceptance_bus (j : Nat) (lr : LineResult) (s : State) :
    (withdrawAcceptance j lr s).bus = s.bus := by
  rw [(lanes_withdrawAcceptance j lr s).rest]
@[simp] theorem withdrawAcceptance_ttu (j : Nat) (lr : LineResult) (s : State) :
    (withdrawAcceptance j lr s).ttu = s.ttu := by
  rw [(lanes_withdrawAcceptance j lr s).rest]
@[simp] theorem withdrawAcceptance_cdm (j : Nat) (lr : LineResult) (s : State) :
    (withdrawAcceptance j lr s).cdm = s.cdm := by
  rw [(lanes_withdrawAcceptance j lr s).rest]
@[simp] theorem withdrawAcceptance_wall (j : Nat) (lr : LineResult) (s : State) :
    (withdrawAcceptance j lr s).wall = s.wall := by
  rw [(lanes_withdrawAcceptance j lr s).rest]
@[simp] theorem withdrawAcceptance_lastLent (j : Nat) (lr : LineResult) (s : State) :
    (withdrawAcceptance j lr s).lastLent = s.lastLent := by
  rw [(lanes_withdrawAcceptance j lr s).rest]
@[simp] theorem withdrawAcceptance_exposures (j : Nat) (lr : LineResult) (s : State) :
    (withdrawAcceptance j lr s).exposures = s.exposures := by
  rw [(lanes_withdrawAcceptance j lr s).rest]
@[simp] theorem withdrawAcceptance_glc (j : Nat) (lr : LineResult) (s : State) :
    (withdrawAcceptance j lr s).glc = s.glc := by
  rw [(lanes_withdrawAcceptance j lr s).rest]
@[simp] theorem withdrawAcceptance_freeCount (j : Nat) (lr : LineResult) (s : State) :
    (withdrawAcceptance j lr s).freeCount = s.freeCount := by
  rw [(lanes_withdrawAcceptance j lr s).rest]
@[simp] theorem withdrawAcceptance_pending (j : Nat) (lr : LineResult) (s : State) :
    (withdrawAcceptance j lr s).pending = s.pending := by
  rw [(lanes_withdrawAcceptance j lr s).rest]
@[simp] theorem withdrawAcceptance_events (j : Nat) (lr : LineResult) (s : State) :
    (withdrawAcceptance j lr s).ntu.events = s.ntu.events := by
  rw [(lanes_withdrawAcceptance j lr s).rest]
@[simp] theorem withdrawAcceptance_capture (j : Nat) (lr : LineResult) (s : State) :
    (withdrawAcceptance j lr s).ntu.capture = s.ntu.capture := by
  rw [(lanes_withdrawAcceptance j lr s).rest]
@[simp] theorem withdrawAcceptance_calls (j : Nat) (lr : LineResult) (s : State) :
    (withdrawAcceptance j lr s).lnc.calls = s.lnc.calls := by
  rw [(lanes_withdrawAcceptance j lr s).rest]
@[simp] theorem withdrawAcceptance_merge (j : Nat) (lr : LineResult) (s : State) :
    (withdrawAcceptance j lr s).mga.merge = s.mga.merge := by
  rw [(lanes_withdrawAcceptance j lr s).rest]
@[simp] theorem withdrawAcceptance_holdTimer (j : Nat) (lr : LineResult) (s : State) :
    (withdrawAcceptance j lr s).mga.holdTimer = s.mga.holdTimer := by
  rw [(lanes_withdrawAcceptance j lr s).rest]

@[simp] theorem dockHead_pau (p : Port) (s : State) :
    (dockHead p s).pau = s.pau := by
  rw [(lanes_dockHead p s).rest]
@[simp] theorem dockHead_bus (p : Port) (s : State) :
    (dockHead p s).bus = s.bus := by
  rw [(lanes_dockHead p s).rest]
@[simp] theorem dockHead_ttu (p : Port) (s : State) :
    (dockHead p s).ttu = s.ttu := by
  rw [(lanes_dockHead p s).rest]
@[simp] theorem dockHead_cdm (p : Port) (s : State) :
    (dockHead p s).cdm = s.cdm := by
  rw [(lanes_dockHead p s).rest]
@[simp] theorem dockHead_wall (p : Port) (s : State) :
    (dockHead p s).wall = s.wall := by
  rw [(lanes_dockHead p s).rest]
@[simp] theorem dockHead_lastLent (p : Port) (s : State) :
    (dockHead p s).lastLent = s.lastLent := by
  rw [(lanes_dockHead p s).rest]
@[simp] theorem dockHead_exposures (p : Port) (s : State) :
    (dockHead p s).exposures = s.exposures := by
  rw [(lanes_dockHead p s).rest]
@[simp] theorem dockHead_glc (p : Port) (s : State) :
    (dockHead p s).glc = s.glc := by
  rw [(lanes_dockHead p s).rest]
@[simp] theorem dockHead_freeCount (p : Port) (s : State) :
    (dockHead p s).freeCount = s.freeCount := by
  rw [(lanes_dockHead p s).rest]
@[simp] theorem dockHead_pending (p : Port) (s : State) :
    (dockHead p s).pending = s.pending := by
  rw [(lanes_dockHead p s).rest]
@[simp] theorem dockHead_events (p : Port) (s : State) :
    (dockHead p s).ntu.events = s.ntu.events := by
  rw [(lanes_dockHead p s).rest]
@[simp] theorem dockHead_capture (p : Port) (s : State) :
    (dockHead p s).ntu.capture = s.ntu.capture := by
  rw [(lanes_dockHead p s).rest]
@[simp] theorem dockHead_calls (p : Port) (s : State) :
    (dockHead p s).lnc.calls = s.lnc.calls := by
  rw [(lanes_dockHead p s).rest]
@[simp] theorem dockHead_merge (p : Port) (s : State) :
    (dockHead p s).mga.merge = s.mga.merge := by
  rw [(lanes_dockHead p s).rest]
@[simp] theorem dockHead_holdTimer (p : Port) (s : State) :
    (dockHead p s).mga.holdTimer = s.mga.holdTimer := by
  rw [(lanes_dockHead p s).rest]

@[simp] theorem endWith_pau (p : Port) (un : CardResult) (lr : LineResult) (byRecall : Bool) (s : State) :
    (endWith p un lr byRecall s).pau = s.pau := by
  rw [(lanes_endWith p un lr byRecall s).rest]
@[simp] theorem endWith_bus (p : Port) (un : CardResult) (lr : LineResult) (byRecall : Bool) (s : State) :
    (endWith p un lr byRecall s).bus = s.bus := by
  rw [(lanes_endWith p un lr byRecall s).rest]
@[simp] theorem endWith_ttu (p : Port) (un : CardResult) (lr : LineResult) (byRecall : Bool) (s : State) :
    (endWith p un lr byRecall s).ttu = s.ttu := by
  rw [(lanes_endWith p un lr byRecall s).rest]
@[simp] theorem endWith_cdm (p : Port) (un : CardResult) (lr : LineResult) (byRecall : Bool) (s : State) :
    (endWith p un lr byRecall s).cdm = s.cdm := by
  rw [(lanes_endWith p un lr byRecall s).rest]
@[simp] theorem endWith_wall (p : Port) (un : CardResult) (lr : LineResult) (byRecall : Bool) (s : State) :
    (endWith p un lr byRecall s).wall = s.wall := by
  rw [(lanes_endWith p un lr byRecall s).rest]
@[simp] theorem endWith_lastLent (p : Port) (un : CardResult) (lr : LineResult) (byRecall : Bool) (s : State) :
    (endWith p un lr byRecall s).lastLent = s.lastLent := by
  rw [(lanes_endWith p un lr byRecall s).rest]
@[simp] theorem endWith_exposures (p : Port) (un : CardResult) (lr : LineResult) (byRecall : Bool) (s : State) :
    (endWith p un lr byRecall s).exposures = s.exposures := by
  rw [(lanes_endWith p un lr byRecall s).rest]
@[simp] theorem endWith_glc (p : Port) (un : CardResult) (lr : LineResult) (byRecall : Bool) (s : State) :
    (endWith p un lr byRecall s).glc = s.glc := by
  rw [(lanes_endWith p un lr byRecall s).rest]
@[simp] theorem endWith_freeCount (p : Port) (un : CardResult) (lr : LineResult) (byRecall : Bool) (s : State) :
    (endWith p un lr byRecall s).freeCount = s.freeCount := by
  rw [(lanes_endWith p un lr byRecall s).rest]
@[simp] theorem endWith_pending (p : Port) (un : CardResult) (lr : LineResult) (byRecall : Bool) (s : State) :
    (endWith p un lr byRecall s).pending = s.pending := by
  rw [(lanes_endWith p un lr byRecall s).rest]
@[simp] theorem endWith_events (p : Port) (un : CardResult) (lr : LineResult) (byRecall : Bool) (s : State) :
    (endWith p un lr byRecall s).ntu.events = s.ntu.events := by
  rw [(lanes_endWith p un lr byRecall s).rest]
@[simp] theorem endWith_capture (p : Port) (un : CardResult) (lr : LineResult) (byRecall : Bool) (s : State) :
    (endWith p un lr byRecall s).ntu.capture = s.ntu.capture := by
  rw [(lanes_endWith p un lr byRecall s).rest]
@[simp] theorem endWith_calls (p : Port) (un : CardResult) (lr : LineResult) (byRecall : Bool) (s : State) :
    (endWith p un lr byRecall s).lnc.calls = s.lnc.calls := by
  rw [(lanes_endWith p un lr byRecall s).rest]
@[simp] theorem endWith_merge (p : Port) (un : CardResult) (lr : LineResult) (byRecall : Bool) (s : State) :
    (endWith p un lr byRecall s).mga.merge = s.mga.merge := by
  rw [(lanes_endWith p un lr byRecall s).rest]
@[simp] theorem endWith_holdTimer (p : Port) (un : CardResult) (lr : LineResult) (byRecall : Bool) (s : State) :
    (endWith p un lr byRecall s).mga.holdTimer = s.mga.holdTimer := by
  rw [(lanes_endWith p un lr byRecall s).rest]

@[simp] theorem resolveHead_pau (p : Port) (sel : Line → Bool) (r : LineResult) (s : State) :
    (resolveHead p sel r s).pau = s.pau := by
  rw [(lanes_resolveHead p sel r s).rest]
@[simp] theorem resolveHead_bus (p : Port) (sel : Line → Bool) (r : LineResult) (s : State) :
    (resolveHead p sel r s).bus = s.bus := by
  rw [(lanes_resolveHead p sel r s).rest]
@[simp] theorem resolveHead_ttu (p : Port) (sel : Line → Bool) (r : LineResult) (s : State) :
    (resolveHead p sel r s).ttu = s.ttu := by
  rw [(lanes_resolveHead p sel r s).rest]
@[simp] theorem resolveHead_cdm (p : Port) (sel : Line → Bool) (r : LineResult) (s : State) :
    (resolveHead p sel r s).cdm = s.cdm := by
  rw [(lanes_resolveHead p sel r s).rest]
@[simp] theorem resolveHead_wall (p : Port) (sel : Line → Bool) (r : LineResult) (s : State) :
    (resolveHead p sel r s).wall = s.wall := by
  rw [(lanes_resolveHead p sel r s).rest]
@[simp] theorem resolveHead_lastLent (p : Port) (sel : Line → Bool) (r : LineResult) (s : State) :
    (resolveHead p sel r s).lastLent = s.lastLent := by
  rw [(lanes_resolveHead p sel r s).rest]
@[simp] theorem resolveHead_exposures (p : Port) (sel : Line → Bool) (r : LineResult) (s : State) :
    (resolveHead p sel r s).exposures = s.exposures := by
  rw [(lanes_resolveHead p sel r s).rest]
@[simp] theorem resolveHead_glc (p : Port) (sel : Line → Bool) (r : LineResult) (s : State) :
    (resolveHead p sel r s).glc = s.glc := by
  rw [(lanes_resolveHead p sel r s).rest]
@[simp] theorem resolveHead_freeCount (p : Port) (sel : Line → Bool) (r : LineResult) (s : State) :
    (resolveHead p sel r s).freeCount = s.freeCount := by
  rw [(lanes_resolveHead p sel r s).rest]
@[simp] theorem resolveHead_pending (p : Port) (sel : Line → Bool) (r : LineResult) (s : State) :
    (resolveHead p sel r s).pending = s.pending := by
  rw [(lanes_resolveHead p sel r s).rest]
@[simp] theorem resolveHead_events (p : Port) (sel : Line → Bool) (r : LineResult) (s : State) :
    (resolveHead p sel r s).ntu.events = s.ntu.events := by
  rw [(lanes_resolveHead p sel r s).rest]
@[simp] theorem resolveHead_capture (p : Port) (sel : Line → Bool) (r : LineResult) (s : State) :
    (resolveHead p sel r s).ntu.capture = s.ntu.capture := by
  rw [(lanes_resolveHead p sel r s).rest]
@[simp] theorem resolveHead_calls (p : Port) (sel : Line → Bool) (r : LineResult) (s : State) :
    (resolveHead p sel r s).lnc.calls = s.lnc.calls := by
  rw [(lanes_resolveHead p sel r s).rest]
@[simp] theorem resolveHead_merge (p : Port) (sel : Line → Bool) (r : LineResult) (s : State) :
    (resolveHead p sel r s).mga.merge = s.mga.merge := by
  rw [(lanes_resolveHead p sel r s).rest]
@[simp] theorem resolveHead_holdTimer (p : Port) (sel : Line → Bool) (r : LineResult) (s : State) :
    (resolveHead p sel r s).mga.holdTimer = s.mga.holdTimer := by
  rw [(lanes_resolveHead p sel r s).rest]

end Sys2Proof.Machine
end

