-- ==== Sys2Proof/Laws/Reads.lean ====
section
/-! SUPPORT. What the return of a read does, once for every kind of read. -/

namespace Sys2Proof.Machine

/-- R5: a read in flight that was not given up ends, and its data is taken. -/
theorem withRead_reading {α : Type} {id : Nat} {kind : ReadFor → Option α} {k : α → State → State} {s : State}
    {p : ReadFor} {a : α} (h : s.reading id p) (ha : kind p = some a) :
    withRead id kind k s = k a (endRead id s) := by
  obtain ⟨r, hr, rfl, hd⟩ := h
  simp [withRead, hr, ha, hd]

/-- R6: a read that was given up ends by its own return and nothing else happens; a return of another kind changes nothing. -/
theorem withRead_discarded {α : Type} {id : Nat} {kind : ReadFor → Option α} {k : α → State → State} {s : State} {r : Read}
    (hr : s.findRead id = some r) (hd : r.discarded = true) :
    withRead id kind k s = if (kind r.purpose).isSome then endRead id s else s := by
  unfold withRead
  rw [hr]
  cases h : kind r.purpose <;> simp [h, hd]

/-- A number that no read in flight has changes nothing. -/
theorem withRead_none {α : Type} {id : Nat} {kind : ReadFor → Option α} {k : α → State → State} {s : State}
    (hr : s.findRead id = none) : withRead id kind k s = s := by
  simp [withRead, hr]

end Sys2Proof.Machine
end

