-- ==== Sys2Proof/Laws/Settling.lean ====
section
/-! SUPPORT. What the pieces of settling (holds, the merge's step, calls, takes) can change, and what they leave. -/

namespace Sys2Proof.Machine

/-- What holds, the merge's step, calls and takes leave as it was: registers, settings, lookups, positions, exposure records,
events and posted writes, the calls that stand and the reads that are out, staffing and link states. -/
structure Settled (s t : State) : Prop where
  pau : t.pau = s.pau
  ttu : t.ttu = s.ttu
  wall : t.wall = s.wall
  exposures : t.exposures = s.exposures
  pending : t.pending = s.pending
  ntu : t.ntu = { s.ntu with counters := t.ntu.counters }
  posted : t.bus.posted = s.bus.posted
  calls : ∃ new, t.lnc.calls = s.lnc.calls ++ new
  reads : ∃ new, t.bus.reads = s.bus.reads ++ new
  takeSeq : t.cdm.takeSeq = s.cdm.takeSeq
  gridUp : t.glc.link.up = s.glc.link.up
  bench : ∀ b : Bench, t.bench b = { s.bench b with link := (t.bench b).link }
  up : ∀ b : Bench, (t.bench b).link.up = (s.bench b).link.up

theorem Settled.refl (s : State) : Settled s s :=
  ⟨rfl, rfl, rfl, rfl, rfl, rfl, rfl, ⟨[], by simp⟩, ⟨[], by simp⟩, rfl, rfl, fun _ => rfl, fun _ => rfl⟩

theorem Settled.trans {s t u : State} (a : Settled s t) (b : Settled t u) : Settled s u where
  pau := by rw [b.pau, a.pau]
  ttu := by rw [b.ttu, a.ttu]
  wall := by rw [b.wall, a.wall]
  exposures := by rw [b.exposures, a.exposures]
  pending := by rw [b.pending, a.pending]
  ntu := by rw [b.ntu, a.ntu]
  posted := by rw [b.posted, a.posted]
  calls := by
    obtain ⟨x, hx⟩ := a.calls; obtain ⟨y, hy⟩ := b.calls
    exact ⟨x ++ y, by rw [hy, hx, List.append_assoc]⟩
  reads := by
    obtain ⟨x, hx⟩ := a.reads; obtain ⟨y, hy⟩ := b.reads
    exact ⟨x ++ y, by rw [hy, hx, List.append_assoc]⟩
  takeSeq := by rw [b.takeSeq, a.takeSeq]
  gridUp := by rw [b.gridUp, a.gridUp]
  bench := fun x => by rw [b.bench, a.bench]
  up := fun x => by rw [b.up, a.up]

theorem BenchQueuesOnly.settled {s t : State} (a : BenchQueuesOnly s t) : Settled s t := by
  have h := a.rest
  exact ⟨by rw [h], by rw [h], by rw [h], by rw [h], by rw [h], by rw [h], by rw [h], ⟨[], by rw [h]; simp⟩,
    ⟨[], by rw [h]; simp⟩, by rw [h], by rw [h], a.bench, a.up⟩

theorem settled_foldl {α : Type} (f : State → α → State) (h : ∀ t a, Settled t (f t a)) (l : List α) :
    ∀ s, Settled s (l.foldl f s) := by
  induction l with
  | nil => exact fun s => .refl s
  | cons a l ih => exact fun s => (h s a).trans (ih (f s a))

/-- The fields that the operations below never touch, all by definition. -/
theorem settled_of_calls_reads {s t : State} (h : t = { s with
      lnc := t.lnc, mga := t.mga, glc := t.glc, cdm := t.cdm, bus := t.bus, lastLent := t.lastLent,
      freeCount := t.freeCount, ntu := { s.ntu with counters := t.ntu.counters } })
    (hp : t.bus.posted = s.bus.posted) (hc : ∃ new, t.lnc.calls = s.lnc.calls ++ new)
    (hr : ∃ new, t.bus.reads = s.bus.reads ++ new) (ht : t.cdm.takeSeq = s.cdm.takeSeq)
    (hu : t.glc.link.up = s.glc.link.up) : Settled s t := by
  have hb : t.blc = s.blc := by rw [h]
  exact ⟨by rw [h], by rw [h], by rw [h], by rw [h], by rw [h], by rw [h], hp, hc, hr, ht, hu,
    fun b => by unfold State.bench; rw [hb], fun b => by unfold State.bench; rw [hb]⟩

theorem settled_gridHand (m : GridMsg) (s : State) : Settled s (gridHand m s) := by
  obtain ⟨l, k, h, hu, _, _⟩ := gridHand_changes m s
  rw [h]
  exact settled_of_calls_reads rfl rfl ⟨[], by simp⟩ ⟨[], by simp⟩ rfl hu

theorem settled_count (f : Counters → Counters) (s : State) : Settled s (count f s) :=
  settled_of_calls_reads rfl rfl ⟨[], by simp⟩ ⟨[], by simp⟩ rfl rfl

theorem settled_setHold (p : Port) (h : PortHold) (s : State) : Settled s (setHold p h s) :=
  settled_of_calls_reads rfl rfl ⟨[], by simp⟩ ⟨[], by simp⟩ rfl rfl

theorem settled_setMga (m : Mga) (s : State) : Settled s (setMga m s) :=
  settled_of_calls_reads rfl rfl ⟨[], by simp⟩ ⟨[], by simp⟩ rfl rfl

theorem settled_setHead (p : Port) (e : Entry) (s : State) : Settled s (setHead p e s) :=
  settled_of_calls_reads rfl rfl ⟨[], by simp⟩ ⟨[], by simp⟩ rfl rfl

/-! ### Holds -/

theorem settled_sendHold (p : Port) (s : State) : Settled s (sendHold p s) := by
  unfold sendHold
  exact ((settled_gridHand _ s).trans (settled_setHold p _ _)).trans (settled_count _ _)

theorem settled_resumeDispatch (p : Port) (s : State) : Settled s (resumeDispatch p s) := by
  unfold resumeDispatch
  split
  · exact settled_setHold p _ s
  · exact (settled_gridHand _ s).trans (settled_setHold p _ _)

theorem settled_actOnWant (p : Port) (old new : Bool) (s : State) : Settled s (actOnWant p old new s) := by
  unfold actOnWant
  split
  · exact .refl s
  · split
    · exact settled_sendHold p s
    · split
      · exact settled_resumeDispatch p s
      · exact .refl s

theorem settled_refreshHolds (s : State) : Settled s (refreshHolds s) :=
  settled_foldl _ (fun t p => (settled_actOnWant p _ _ t).trans (settled_setHold p _ _)) _ s

/-! ### The merge -/

theorem settled_releaseHead (p : Port) (s : State) : Settled s (releaseHead p s) := by
  unfold releaseHead
  split
  · exact settled_setHead p _ s
  · exact .refl s

theorem settled_grant (r : Requester) (s : State) : Settled s (grant r s) := by
  cases r with
  | port p =>
    simp only [grant, grantPort]
    split
    · exact .refl s
    · exact ((((settled_setMga _ s).trans (settled_count _ _)).trans (settled_releaseHead p _)).trans
        (settled_gridHand _ _)).trans (portCue_only p _ _).settled
  | recirc =>
    simp only [grant, grantRecirc]
    exact ((settled_setMga _ s).trans (settled_count _ _)).trans (settled_gridHand _ _)

theorem settled_mergeStep (s : State) : Settled s (mergeStep s) := by
  unfold mergeStep
  split
  · split
    · exact settled_grant _ s
    · split
      · exact .refl s
      · split
        · exact settled_grant _ s
        · exact settled_setMga _ s
    · exact .refl s
  · exact .refl s

/-- R142: while a return hold is in force or the Grid Link is DOWN the merge stays as it stands. -/
theorem mergeStep_held (s : State) (h : s.grantsFlow = false) : mergeStep s = s := by simp [mergeStep, h]

/-! ### Calls and takes -/

theorem settled_recordLend (c : CardCtx) (p : Port) (s : State) : Settled s (recordLend c p s) := by
  unfold recordLend
  split
  · split
    · exact .refl _
    · exact settled_of_calls_reads rfl rfl ⟨[], by simp⟩ ⟨[], by simp⟩ rfl rfl
  · exact .refl _

theorem settled_makeCall (c : CardCtx) (p : Port) (s : State) : Settled s (makeCall c p s) := by
  simp only [makeCall]
  refine .trans (.trans (.trans ?_ (settled_gridHand _ _)) (settled_count _ _)) (settled_recordLend _ _ _)
  exact settled_of_calls_reads rfl rfl ⟨_, rfl⟩ ⟨[], by simp [unstage]⟩ rfl rfl

theorem settled_chooseOnce {s t : State} (h : chooseOnce s = some t) : Settled s t := by
  unfold chooseOnce at h
  split at h
  · exact absurd h (by simp)
  · cases h; exact settled_makeCall _ _ s
  · cases h
    exact (settled_of_calls_reads (t := { s with freeCount := s.freeCount + 1 }) rfl rfl ⟨[], by simp⟩ ⟨[], by simp⟩ rfl
      rfl).trans (settled_makeCall _ _ _)

theorem settled_callLoop (fuel : Nat) : ∀ s, Settled s (callLoop fuel s) := by
  induction fuel with
  | zero => exact fun s => .refl s
  | succ n ih =>
    intro s
    unfold callLoop
    split
    · exact .refl s
    · rename_i t h
      exact (settled_chooseOnce h).trans (ih t)

theorem settled_selectCalls (s : State) : Settled s (selectCalls s) := settled_callLoop _ s

theorem settled_beginTake (b : Bench) (s : State) : Settled s (beginTake b s) := by
  unfold beginTake
  split
  · exact settled_of_calls_reads rfl rfl ⟨[], by simp [setTakeMark]⟩ ⟨_, rfl⟩ rfl rfl
  · exact .refl s

theorem settled_beginTakes (s : State) : Settled s (beginTakes s) :=
  settled_foldl _ (fun t b => settled_beginTake b t) _ s

end Sys2Proof.Machine
end

