-- ==== Sys2Proof/Laws/Signals.lean ====
section
/-! SUPPORT. Finding every signal condition, in one equation. -/

namespace Sys2Proof.Machine

/-- The notice that finding one vector's condition sends, if any. -/
def State.noticeOf (s : State) (quiet : Bool) (v : Fin 4) : List HostWrite :=
  if s.signalCondition v && !s.ntu.signals[v] && !quiet && s.pau.live.isSome then
    [{ addr := s.live.noticeAddr, data := natToBytes 4 (noticeDatum s.live v) }]
  else []

theorem findSignal_eq (quiet : Bool) (s : State) (v : Fin 4) :
    findSignal quiet s v = { s with
      ntu := { s.ntu with signals := s.ntu.signals.set v (s.signalCondition v) }
      bus := { s.bus with posted := s.bus.posted ++ s.noticeOf quiet v } } := by
  unfold findSignal State.noticeOf
  split <;> simp_all [post]

/-- Recording a condition changes no other vector's condition or notice. -/
theorem noticeOf_of_same (quiet : Bool) (s t : State) (v : Fin 4) (hp : t.pau = s.pau)
    (hn : t.ntu = { s.ntu with signals := t.ntu.signals }) (hv : t.ntu.signals[v] = s.ntu.signals[v]) :
    t.noticeOf quiet v = s.noticeOf quiet v ∧ t.signalCondition v = s.signalCondition v := by
  have hc : t.signalCondition v = s.signalCondition v := by
    unfold State.signalCondition State.live
    rw [hp, hn]
  refine ⟨?_, hc⟩
  unfold State.noticeOf State.live
  rw [hc, hv, hp]

/-- Finding one condition leaves every other vector's condition and notice as they were. -/
theorem findSignal_other (quiet : Bool) (s : State) {v w : Fin 4} (h : v ≠ w) :
    (findSignal quiet s v).noticeOf quiet w = s.noticeOf quiet w ∧
    (findSignal quiet s v).signalCondition w = s.signalCondition w := by
  rw [findSignal_eq]
  refine noticeOf_of_same quiet s _ w rfl rfl ?_
  have hn : v.val ≠ w.val := fun e => h (Fin.ext e)
  simp [hn]

theorem four_filtered {α : Type} (p : Fin 4 → Bool) (f : Fin 4 → α) :
    (([0, 1, 2, 3] : List (Fin 4)).filter p).map f = (if p 0 then [f 0] else []) ++ (if p 1 then [f 1] else [])
      ++ (if p 2 then [f 2] else []) ++ (if p 3 then [f 3] else []) := by
  simp only [List.filter_cons, List.filter_nil]
  cases p 0 <;> cases p 1 <;> cases p 2 <;> cases p 3 <;> rfl

/-- `findSignals` is `State.signalsFound`: the form in which the statements speak of it. -/
theorem findSignals_eq (quiet : Bool) (s : State) : findSignals quiet s = s.signalsFound quiet := by
  have chain : findSignals quiet s = { s with
      ntu := { s.ntu with signals := (((s.ntu.signals.set 0 (s.signalCondition 0)).set 1 (s.signalCondition 1)).set 2
        (s.signalCondition 2)).set 3 (s.signalCondition 3) }
      bus := { s.bus with posted :=
        s.bus.posted ++ s.noticeOf quiet 0 ++ s.noticeOf quiet 1 ++ s.noticeOf quiet 2 ++ s.noticeOf quiet 3 } } := by
    show findSignal quiet (findSignal quiet (findSignal quiet (findSignal quiet s 0) 1) 2) 3 = _
    have h1 := findSignal_eq quiet s 0
    have o1 : ∀ w : Fin 4, 0 ≠ w → _ := fun w h => findSignal_other quiet s (v := 0) (w := w) h
    generalize findSignal quiet s 0 = t1 at h1 o1 ⊢
    have h2 := findSignal_eq quiet t1 1
    have o2 : ∀ w : Fin 4, 1 ≠ w → _ := fun w h => findSignal_other quiet t1 (v := 1) (w := w) h
    generalize findSignal quiet t1 1 = t2 at h2 o2 ⊢
    have h3 := findSignal_eq quiet t2 2
    have o3 : ∀ w : Fin 4, 2 ≠ w → _ := fun w h => findSignal_other quiet t2 (v := 2) (w := w) h
    generalize findSignal quiet t2 2 = t3 at h3 o3 ⊢
    rw [findSignal_eq quiet t3 3, (o3 3 (by decide)).1, (o3 3 (by decide)).2, (o2 3 (by decide)).1,
      (o2 3 (by decide)).2, (o1 3 (by decide)).1, (o1 3 (by decide)).2]
    rw [(o2 2 (by decide)).1, (o2 2 (by decide)).2, (o1 2 (by decide)).1, (o1 2 (by decide)).2] at h3
    rw [(o1 1 (by decide)).1, (o1 1 (by decide)).2] at h2
    subst h1 h2 h3
    rfl
  rw [chain]
  have signals : (((s.ntu.signals.set 0 (s.signalCondition 0)).set 1 (s.signalCondition 1)).set 2
      (s.signalCondition 2)).set 3 (s.signalCondition 3) = Vector.ofFn (fun v => s.signalCondition v) := by
    refine Vector.ext fun i hi => ?_
    match i, hi with
    | 0, _ => simp
    | 1, _ => simp
    | 2, _ => simp
    | 3, _ => simp
  have notices : s.noticesFor quiet = s.noticeOf quiet 0 ++ s.noticeOf quiet 1 ++ s.noticeOf quiet 2
      ++ s.noticeOf quiet 3 := by
    unfold State.noticesFor State.noticeOf State.newSignals
    cases quiet <;> cases hl : s.pau.live <;> simp [four_filtered]
  simp only [State.signalsFound, signals, notices, List.append_assoc]

end Sys2Proof.Machine
end

