-- ==== Sys2Proof/Laws/Status.lean ====
section
/-! SUPPORT. The pieces of a Status Block write and their lengths. -/

namespace Sys2Proof.Machine

theorem vector_four {α : Type} (v : Vector α 4) : v.toList = [v[0], v[1], v[2], v[3]] := by
  refine List.ext_getElem (by simp) fun i h _ => ?_
  have hi : i < 4 := by simpa using h
  match i, hi with
  | 0, _ => simp
  | 1, _ => simp
  | 2, _ => simp
  | 3, _ => simp

/-! ## Lengths -/

@[simp] theorem natToBytes_length (k n : Nat) : (natToBytes k n).length = k := by
  induction k generalizing n with
  | zero => rfl
  | succ k ih => simp [natToBytes, ih]

@[simp] theorem wordsBytes_length (ws : List Word) : (wordsBytes ws).length = 4 * ws.length := by
  induction ws with
  | nil => rfl
  | cons w ws ih =>
    have : wordsBytes (w :: ws) = natToBytes 4 w.toNat ++ wordsBytes ws := rfl
    rw [this, List.length_append, ih, natToBytes_length, List.length_cons]
    omega

theorem wordsBytes_append (a b : List Word) : wordsBytes (a ++ b) = wordsBytes a ++ wordsBytes b := by simp [wordsBytes]

@[simp] theorem benchRecordBytes_length (s : State) (b : Bench) : (benchRecordBytes s b).length = 8 := by
  unfold benchRecordBytes
  split <;> simp

@[simp] theorem portRecordBytes_length (s : State) (p : Port) : (portRecordBytes s p).length = 4 := by
  unfold portRecordBytes
  split <;> simp

@[simp] theorem Capture.bytes_length (c : Capture) : c.bytes.length = 32 := by simp [Capture.bytes]

@[simp] theorem BenchCounters.bytes_length (c : BenchCounters) : c.bytes.length = 56 := by simp [BenchCounters.bytes]

@[simp] theorem statusHead_length (s : State) : (statusHead s).length = 12 := by simp [statusHead]

/-! ## The pieces -/

/-- The record of the Return Merge (Table 1-12, offset 058h). -/
def mergeRecordBytes (s : State) : List Byte :=
  natToBytes 1 (requesterCode s.mga.merge.holder) ++ natToBytes 1 (requesterCode s.mga.parked)
  ++ natToBytes 1 (bit s.mga.merge.inSwing 0 + bit (s.mga.holdTimer != 0) 1) ++ natToBytes 1 0
  ++ natToBytes 2 (returnHoldDs s) ++ natToBytes 2 0

/-- The counters of the part that no bench's block holds (Table 1-16), one word left over. -/
def partCounterBytes (c : Counters) : List Byte :=
  wordsBytes [c.calls, c.refusals, c.retries, c.callFailures, c.transitLosses, c.mergeGrants, c.recircGrants,
    c.tenureTimeouts, c.returnHolds, c.dispatchHolds, c.gridFrameErrors, c.benchFrameErrors[0], c.benchFrameErrors[1],
    c.benchFrameErrors[2], c.benchFrameErrors[3], 0]

@[simp] theorem mergeRecordBytes_length (s : State) : (mergeRecordBytes s).length = 8 := by simp [mergeRecordBytes]

@[simp] theorem partCounterBytes_length (c : Counters) : (partCounterBytes c).length = 64 := by simp [partCounterBytes]

/-- The body of a Status Block write, piece by piece. -/
theorem statusBody_pieces (s : State) : statusBody s =
    benchRecordBytes s 0 ++ (benchRecordBytes s 1 ++ (benchRecordBytes s 2 ++ (benchRecordBytes s 3 ++
    (portRecordBytes s 0 ++ (portRecordBytes s 1 ++ (portRecordBytes s 2 ++ (portRecordBytes s 3 ++
    (portRecordBytes s 4 ++ (portRecordBytes s 5 ++ (portRecordBytes s 6 ++ (portRecordBytes s 7 ++
    (portRecordBytes s 8 ++ (portRecordBytes s 9 ++
    (mergeRecordBytes s ++ (s.ntu.capture.bytes ++ (partCounterBytes s.ntu.counters ++
    (s.ntu.counters.bench[0].bytes ++ (s.ntu.counters.bench[1].bytes ++ (s.ntu.counters.bench[2].bytes ++
    (s.ntu.counters.bench[3].bytes ++ natToBytes 92 0)))))))))))))))))))) := by
  simp only [statusBody, vector_four, mergeRecordBytes, partCounterBytes, allBenches, allPorts, List.flatMap_cons,
    List.flatMap_nil, List.append_nil, List.append_assoc]
  simp only [wordsBytes, List.flatMap_cons, List.flatMap_nil, List.append_nil, List.append_assoc]
  rfl

end Sys2Proof.Machine
end

