-- ==== Sys2Proof/Tests/Slice0.lean ====
section
/-! SUPPORT. Tests of the model: ill-formed commands refused, frames read, the manual's worked values, and, for each obligation
with hypotheses, states and operands that meet them. -/

namespace Sys2Proof.Tests

open Sys2Proof Sys2Proof.Machine

set_option Elab.async false

/-! ## Well-formedness: one ill-formed command for each check -/

theorem test_run_with_clear_is_ill_formed : (Instr.run 0x3).wellFormed = false := by decide
theorem test_clear_without_clear_is_ill_formed : (Instr.clear 0x5).wellFormed = false := by decide
theorem test_notice_enable_with_clear_is_ill_formed : (Instr.noticeEnable 0x6).wellFormed = false := by decide
theorem test_accepted_write_is_not_discarded : (Instr.registerWriteDiscarded 0x00C 0xF 0).wellFormed = false := by decide
theorem test_settings_data_of_255_bytes : (Instr.settingsReadReturn 0 (List.replicate 255 0)).wellFormed = false := by
  decide +kernel
theorem test_live_data_of_129_bytes : (Instr.liveSettingsReadReturn 0 (List.replicate 129 0)).wellFormed = false := by
  decide +kernel
theorem test_card_data_of_63_bytes : (Instr.cardReadReturn 0 (List.replicate 63 0)).wellFormed = false := by decide +kernel
theorem test_order_data_of_33_bytes : (Instr.orderRecordReadReturn 0 (List.replicate 33 0)).wellFormed = false := by
  decide +kernel

/-- LINE_CHECK as it stands on the wire (chapter 10, Table 1-17): CRC 1D0Fh, low byte first. -/
def lineCheckFrame : List Byte := [0xC5, 0x00, 0x00, 0x0F, 0x1D]

theorem test_whole_frame_is_no_gap_timeout : (Instr.gridFrameGapTimeout lineCheckFrame).wellFormed = false := by decide +kernel
theorem test_good_frame_is_no_frame_error : (Instr.gridFrameError lineCheckFrame).wellFormed = false := by decide +kernel
theorem test_whole_panel_frame_is_no_gap_timeout : (Instr.benchFrameGapTimeout 2 lineCheckFrame).wellFormed = false := by
  decide +kernel
theorem test_good_panel_frame_is_no_frame_error : (Instr.benchFrameError 2 lineCheckFrame).wellFormed = false := by
  decide +kernel
theorem test_ordinary_commands_are_well_formed :
    ([.run 0x5, .clear 0x2, .noticeEnable 0x4, .registerWriteDiscarded 0x000 0xF 0, .registerWriteDiscarded 0x00C 0x7 0,
      .gridFrameGapTimeout [0xC5, 0x21], .gridFrameError [0xC5, 0x00, 49], .benchFrameGapTimeout 0 [0xC5],
      .benchFrameError 3 [0xC5, 0x00, 0x00, 0x0F, 0x1E]] : List Instr).all Instr.wellFormed = true := by decide +kernel

/-! ## Frames -/

theorem test_crc_of_line_check : crc16 [0x00, 0x00] = 0x1D0F := by decide +kernel
theorem test_line_check_frame : GridMsg.lineCheck.frame = lineCheckFrame ∧ BenchMsg.lineCheck.frame = lineCheckFrame := by
  decide +kernel
theorem test_grid_frames_are_read :
    decodeGridFrame lineCheckFrame = some .gridLineCheck
    ∧ decodeGridFrame (frameBytes 0x22 [0x34, 0x02, 0x01]) = some (.callRefuse 0x0234 1)
    ∧ decodeGridFrame (frameBytes 0x24 [0x09, 0x00, 0x78, 0x56, 0x34, 0x12]) = some (.arrived 9 0x12345678)
    ∧ decodeGridFrame (frameBytes 0x22 [0x34, 0x02]) = none ∧ decodeGridFrame (frameBytes 0x41 [1, 0]) = none := by
  decide +kernel
theorem test_panel_frames_are_read :
    decodePanelFrame 1 (frameBytes 0x48 [0x02, 0x0F, 0x03]) = some (.pick 1 2 15 3)
    ∧ decodePanelFrame 3 (frameBytes 0x45 [0x02, 0x00, 0x01, 0x00, 0x04, 0x00]) = some (.place 3 2 0x00040001)
    ∧ decodePanelFrame 0 (frameBytes 0x41 [0x2C, 0x01]) = some (.signOn 0 300)
    ∧ decodePanelFrame 0 (frameBytes 0x24 [0, 0, 0, 0, 0, 0]) = none := by decide +kernel

/-! ## Records -/

/-- The order record of the manual's worked check: POSTED, bench 1, 3 lines, tag 12345678h, deadline 86400, check 45CFh. -/
def orderBytes : List Byte :=
  natToBytes 1 1 ++ [0] ++ natToBytes 2 0x45CF ++ natToBytes 2 1 ++ natToBytes 2 3 ++ natToBytes 4 0x12345678
  ++ natToBytes 4 86400 ++ List.replicate 16 0

theorem test_order_check_of_the_manual :
    orderBytes.length = 32 ∧ checkCorrect orderBytes = true ∧ checkCorrect (orderBytes.set 4 2) = false := by decide +kernel

/-! ## Small states -/

/-- Four benches of two own ports, both shared ports in TWIN_AND_LEND. -/
def plan : Structural :=
  { clockBase := 0, cardPool := 0x10000, orderBoard := 0x100000, tagTable := 0x200000, statusBlock := 0x2000,
    cardCount := 128, orderCount := 64, tagBase := 0x40000, tagExp := 12, enableMask := 15, ownPorts := .replicate 4 2,
    sharedMode := .replicate 2 2, lendSource := .replicate 2 2, laneDepth := .replicate 10 2 }

def ways : Live :=
  { sweepCode := 3, retryCode := 0, retryGap := 30, rotationK := 2, chilledBudget := 600, frozenBudget := 300,
    chilledMode := 1, frozenMode := 2, chilledGrace := 0, frozenGrace := 60, rushMargin := 900, readyWait := 120,
    transitTimeout := 300, parking := 0, gateSwing := 20, tenureCode := 5, holdQuantum := 50, holdRefresh := 25,
    giveUp := true, frozenPriority := true, holdReaction := true, resumeLapse := false, holdOnBreak := true,
    suppressPrior := false, vectorCount := 2, noticeData := 0x5A42, noticeAddr := 0x7A0000 }

/-- A Settings Block that says the same. -/
def planBytes : List Byte :=
  natToBytes 4 1 ++ natToBytes 4 0 ++ natToBytes 8 0x10000 ++ natToBytes 8 0x100000 ++ natToBytes 8 0x200000
  ++ natToBytes 8 0x2000 ++ natToBytes 2 128 ++ natToBytes 2 64 ++ natToBytes 4 0x40000 ++ [12, 15, 2, 2, 2, 2, 2, 2, 2, 2]
  ++ List.replicate 6 0 ++ List.replicate 10 2 ++ List.replicate 54 0

def waysBytes : List Byte :=
  [3, 0, 30, 2] ++ natToBytes 2 600 ++ natToBytes 2 300 ++ [1, 2] ++ natToBytes 2 0 ++ natToBytes 2 60 ++ natToBytes 2 900
  ++ natToBytes 2 120 ++ natToBytes 2 300 ++ [0, 20, 5, 50, 25, 0x17, 2, 0] ++ natToBytes 2 0x5A42 ++ [0, 0]
  ++ natToBytes 8 0x7A0000 ++ List.replicate 88 0

theorem test_settings_are_read_from_their_bytes :
    parseStructural (planBytes ++ waysBytes) = plan ∧ parseLive waysBytes = ways := by decide +kernel

/-- A part in this run state with its settings taken, all links UP, all benches STAFFED, at floor second 1000. -/
def inState (r : RunState) : State :=
  { State.reset with
    pau := { Pau.initial with
      run := true, runState := r, structural := some plan, live := some ways, floorClock := 1000, stampTaken := some 1 }
    glc := { Glc.initial with link := { Link.initial with up := true } }
    blc := .replicate 4 { Blc.initial with link := { Link.initial with up := true }, staffing := .staffed, picker := 7 } }

def running : State := inState .running

/-- The state with one read in flight, number 0. -/
def asked (p : ReadFor) (s : State) : State :=
  { s with bus := { s.bus with
      reads := [{ id := 0, purpose := p, addr := 0, len := 0, discarded := false }], nextRead := 1 } }

/-- The same with its read given up. -/
def givenUp (p : ReadFor) (s : State) : State :=
  { s with bus := { s.bus with
      reads := [{ id := 0, purpose := p, addr := 0, len := 0, discarded := true }], nextRead := 1 } }

theorem asked_reading (p : ReadFor) (s : State) : (asked p s).reading 0 p := ⟨_, rfl, rfl, rfl⟩

def withPau (f : Pau → Pau) (s : State) : State := { s with pau := f s.pau }

/-- A card context: card 5, taking 0, of bench 0. -/
def card : CardCtx :=
  { card := 5, seq := 0, bench := 0, twin := false, cls := .chilled, tag := 0x40005, exposureUsed := 10,
    lines := [Line.fresh (3, 4)], timeTaken := 500, timeCalled := some 510, callAttempts := 1, timeArrived := none,
    portPresented := none, timePresented := none, adopted := false, misrouted := false, stuck := false,
    lateArrival := false, withdrawn := false, recalled := false, result := none, exposureTotal := none }

/-- A position that holds order 3. -/
def position (st : PosState) : Position :=
  { Position.empty with state := st, order := some 3, scanned := 0x40200, linesExpected := 2, deadline := 900 }

def placed (q : PutPos) (p : Position) (s : State) : State := { s with wall := s.wall.set q p }

/-- A call of the card to port 0. -/
def call (st : CallState) (timer : CallTimer) : Call :=
  { number := 7, card := card, port := 0, state := st, retries := 0, exhausted := false, dispatchSeen := false,
    transitExpired := false, inquiries := 1, cancel := none, timer := timer, transit := some 1 }

def calling (c : Call) (s : State) : State := { s with lnc := { s.lnc with calls := [c] } }

/-- A lane entry of the card. -/
def entry (st : EntryState) (c : CardCtx) : Entry := { tag := c.tag, card := some c, kind := .called, state := st }

def standing (p : Port) (e : Entry) (s : State) : State := setLane p [e] s

def merging (m : Merge) (s : State) : State := { s with mga := { s.mga with merge := m } }

def awaiting (b : Bench) (a : Option Awaited) (s : State) : State := { s with blc := s.blc.set b { s.bench b with awaited := a } }

def staffed (b : Bench) (f : Staffing) (s : State) : State := { s with blc := s.blc.set b { s.bench b with staffing := f } }

def linkDown (b : Bench) (s : State) : State :=
  { s with blc := s.blc.set b { s.bench b with link := { (s.bench b).link with up := false } } }

def gridDown (s : State) : State := { s with glc := { s.glc with link := { s.glc.link with up := false } } }

/-! ## Witnesses: states and operands that meet the hypotheses of the obligations, clause by clause -/

theorem test_IdleStepMovesTimersOnly_applies :
    State.reset.pending = [] ∧ State.reset.active = false ∧ running.pending = [] ∧ running.active = true
    ∧ (merging (.swinging .recirc 1 true) running).mga.merge = .swinging .recirc 1 true
    ∧ (merging (.swinging .recirc 1 true) running).pending = [] := by decide +kernel

theorem test_AreaRegistersLoadInStoppedOnly_applies :
    State.reset.pau.runState = .stopped ∧ running.pau.runState ≠ .stopped := by decide +kernel

theorem test_DiscardedRegisterWriteChangesNothing_applies :
    discardedWrite 0x000 0xF = true ∧ discardedWrite 0x00C 0x7 = true ∧ discardedWrite 0x020 0xF = true
    ∧ discardedWrite 0x01C 0xF = false := by decide +kernel

def sweeping : State := withPau (fun p => { p with sweep := some { kind := .edition 5, stage := .stamp } }) running

theorem test_EditionWritesAndSweepsDoNotOverlap_applies :
    State.reset.active = false ∧ running.active = true ∧ running.pau.sweep = none ∧ sweeping.active = true
    ∧ sweeping.pau.sweep ≠ none ∧ sweeping.pau.editionDue = false
    ∧ (withPau (fun p => { p with editionDue := true }) sweeping).pau.editionDue = true := by decide +kernel

theorem test_ControlWriteLoadsAndActs_applies :
    (0x1 : Word).getLsbD 1 = false ∧ (0x4 : Word).getLsbD 1 = false ∧ (0x1 : Word).getLsbD 0 = true
    ∧ (0x4 : Word).getLsbD 0 = false ∧ State.reset.pau.runState = .stopped ∧ State.reset.pau.run = false
    ∧ (inState .starting).pau.runState = .starting ∧ running.pau.runState = .running ∧ running.pau.run = true
    ∧ (inState .draining).pau.runState = .draining ∧ (inState .faulted).pau.runState = .faulted := by decide +kernel

theorem test_ClearEmptiesEveryBlock_applies :
    (0x2 : Word).getLsbD 1 = true ∧ State.reset.pau.structural.isSome = false ∧ running.pau.structural.isSome = true := by
  decide +kernel

theorem test_RegistersReadTheirFields_applies :
    State.reset.pau.errorCode < 64 ∧ (withPau (fun p => { p with errorCode := 63 }) running).pau.errorCode < 64
    ∧ 0x20 ≤ 0x20 ∧ 0x20 ≤ 0xFFF := by decide +kernel

theorem test_StatusBlockWriteIsOneSnapshot_applies :
    State.reset.pau.structural = none ∧ running.pau.structural = some plan := by decide +kernel

/-- Bench 0 not enabled, so its ports are absent and port 8 too. -/
theorem test_StatusBlockWriteIsOneSnapshot_clauses :
    plan.benchEnabled 3 = true ∧ { plan with enableMask := 14 }.benchEnabled 0 = false ∧ plan.portPresent 9 = true
    ∧ { plan with enableMask := 14 }.portPresent 0 = false ∧ { plan with enableMask := 14 }.portPresent 8 = false := by
  decide +kernel

def excepted : State :=
  { running with ntu := { running.ntu with
      events := 0x008, capture := { Capture.initial with kind := some .badCard, later := 0xFFFFFFFF } } }

theorem test_FaultCaptureTakesOneRecordAndCounts_applies :
    running.ntu.events.getLsbD 3 = false ∧ excepted.ntu.events.getLsbD 3 = true
    ∧ excepted.ntu.capture.later = 0xFFFFFFFF := by decide +kernel

theorem test_dwell_buckets_at_their_bounds :
    [0, 19, 20, 39, 40, 79, 80, 159, 160, 319, 320].map dwellBucket = [0, 0, 1, 1, 2, 2, 3, 3, 4, 4, 5] := by decide +kernel

/-- A vector count of 3, error code 32. -/
def badWays : List Byte := waysBytes.set 0x1A 3

theorem test_SettingsReadStartsOrFaults_applies :
    (planBytes ++ waysBytes).length = 256 ∧ (planBytes ++ badWays).length = 256
    ∧ (asked .settings (inState .starting)).reading 0 .settings
    ∧ settingsError 0 (parseStructural (planBytes ++ waysBytes)) (parseLive ((planBytes ++ waysBytes).drop 0x80)) = 0
    ∧ settingsError 0 (parseStructural (planBytes ++ badWays)) (parseLive ((planBytes ++ badWays).drop 0x80)) = 32 :=
  ⟨by decide +kernel, by decide +kernel, asked_reading _ _, by decide +kernel, by decide +kernel⟩

theorem test_SettingsReadStartsOrFaults_clauses :
    (inState .starting).areaBase = 0 ∧ (inState .starting).pau.drainDue = false
    ∧ (withPau (fun p => { p with drainDue := true }) (inState .starting)).pau.drainDue = true
    ∧ plan.benchEnabled 0 = true ∧ (parseStructural (planBytes.set 0x31 14 ++ waysBytes)).benchEnabled 0 = false
    ∧ settingsError 0 (parseStructural (planBytes.set 0x31 14 ++ waysBytes)) ways = 0
    ∧ ((inState .starting).bench 0).staffing = .staffed := by decide +kernel

theorem test_BusErrorFaultsThePart_applies :
    (asked .stamp running).findRead 0 = some { id := 0, purpose := .stamp, addr := 0, len := 0, discarded := false }
    ∧ (asked .stamp running).active = true ∧ (asked .settings (inState .starting)).pau.runState = .starting
    ∧ running.ntu.events.getLsbD 3 = false := by decide +kernel

theorem test_ReadsThatTakeNoEffect_applies :
    ((givenUp .stamp running).findRead 0).map (fun r => (r.purpose, r.discarded)) = some (.stamp, true)
    ∧ ((asked .stamp running).findRead 0).map (fun r => (r.purpose, r.discarded)) = some (.stamp, false)
    ∧ answersRead (.stampReadReturn 0 1) .stamp = true ∧ answersRead (.readBusError 0) .stamp = true
    ∧ answersRead (.linkStepReadReturn 0 1) .stamp = false ∧ answersRead (.settingsReadReturn 0 []) .stamp = false
    ∧ running.findRead 0 = none ∧ (planBytes ++ waysBytes).length = 256
    ∧ waysBytes.length = 128 ∧ (List.replicate 64 (0 : Byte)).length = 64 ∧ orderBytes.length = 32
    ∧ ([] : List Byte).length ≠ 256 := by decide +kernel

theorem test_StampAndLiveSettingsReads_applies :
    (asked .stamp sweeping).reading 0 .stamp ∧ (asked .liveSettings sweeping).reading 0 .liveSettings
    ∧ (asked .stamp sweeping).pau.stampTaken = some 1 ∧ (asked .stamp sweeping).pau.stampTaken ≠ some 2
    ∧ (asked .stamp sweeping).pau.sweep = some { kind := .edition 5, stage := .stamp }
    ∧ waysBytes.length = 128 ∧ liveError (parseLive waysBytes) = 0
    ∧ badWays.length = 128 ∧ liveError (parseLive badWays) ≠ 0 :=
  ⟨asked_reading _ _, asked_reading _ _, by decide +kernel⟩

/-- Chain 0 starved, at its anchor or at the link of card 5. -/
def starving (cursor : Option Nat) (s : State) : State :=
  setChain 0
    { state := if cursor.isNone then .starvedAtAnchor else .starvedAtLink, cursor := cursor, takeInFlight := false } s

theorem test_StarvedChainReadEndsStarving_applies :
    (asked (.starved 0 true none) (starving none running)).reading 0 (.starved 0 true none)
    ∧ (asked (.starved 0 false (some 5)) (starving (some 5) running)).reading 0 (.starved 0 false (some 5))
    ∧ running.pau.runState = .running ∧ running.st.cardCount = 128
    ∧ (starving none running).chain 0 = { state := .starvedAtAnchor, cursor := none, takeInFlight := false }
    ∧ (starving (some 5) running).chain 0 = { state := .starvedAtLink, cursor := some 5, takeInFlight := false }
    ∧ (127 : Half) ≠ 0xFFFF ∧ (127 : Half).toNat < 128 ∧ (128 : Half) ≠ 0xFFFF ∧ 128 ≤ (128 : Half).toNat :=
  ⟨asked_reading _ _, asked_reading _ _, by decide +kernel⟩

def staging (c : CardCtx) (s : State) : State := setStaged 0 [c] s

theorem test_SweepFlagReads_applies :
    (asked (.cardFlags 5 0) (staging card running)).reading 0 (.cardFlags 5 0)
    ∧ (asked (.orderFlags 2 3 true) (placed 2 (position .bound) running)).reading 0 (.orderFlags 2 3 true)
    ∧ (asked (.orderFlags 2 3 false) running).reading 0 (.orderFlags 2 3 false)
    ∧ (0x2 : Byte).getLsbD 1 = true ∧ (0x1 : Byte).getLsbD 1 = false ∧ (0x1 : Byte).getLsbD 0 = true
    ∧ (staging card running).taking 5 0 = some card ∧ card.withdrawn = false
    ∧ ((staging card running).staged 0).any (fun x => x.named 5 0) = true ∧ running.taking 5 0 = none
    ∧ (staging { card with withdrawn := true } running).taking 5 0 = some { card with withdrawn := true }
    ∧ ((placed 2 (position .bound) running).position 2).state = .bound ∧ (running.position 2).state ≠ .bound :=
  ⟨asked_reading _ _, asked_reading _ _, asked_reading _ _, by decide +kernel⟩

/-- Card 5 in a call and in lane entries. -/
theorem test_SweepFlagReads_withdrawals :
    (calling (call .called .none) running).taking 5 0 = some card
    ∧ ((calling (call .called .none) running).staged card.bench).any (fun x => x.named 5 0) = false
    ∧ (standing 0 (entry .presenting card) running).taking 5 0 = some card
    ∧ (call .called .none).state = .called ∧ (call .dispatched .none).state ≠ .called
    ∧ (call .dispatched .none).state ≠ .accepted
    ∧ (standing 0 (entry .presenting card) running).head 0 = some (entry .presenting card)
    ∧ (standing 0 (entry .queued card) running).head 0 = some (entry .queued card)
    ∧ (entry .queued card).card = some card ∧ card.named 5 0 = true := by decide +kernel

def sweepAt (k : SweepKind) (g : SweepStage) : State :=
  withPau (fun p => { p with sweep := some { kind := k, stage := g } }) running

theorem test_SweepFlagReads_stages :
    (staging card running).held ≠ [] ∧ running.held = [] ∧ running.stageReading .cardFlags = false
    ∧ running.stageReading .orderFlags = false ∧ ((placed 2 (position .bound) running).position 2).state.holds = true
    ∧ ((placed 2 (position .bound) running).position 2).order = some 3
    ∧ (∀ q : PutPos, (running.position q).state.holds = false)
    ∧ ([.stamp, .liveSettings, .starved, .cardFlags, .orderFlags] : List SweepStage).all (fun g =>
        (sweepAt .timed g).pau.sweep == some { kind := .timed, stage := g } && !(sweepAt .timed g).stageReading g) = true
    ∧ (asked .stamp (sweepAt (.edition 5) .stamp)).stageReading .stamp = true
    ∧ (sweepAt (.edition 5) .orderFlags).pau.sweep = some { kind := .edition 5, stage := .orderFlags } := by decide +kernel

theorem test_LinkStepAndIndexCheck_applies :
    (asked (.linkStep 0 none) running).reading 0 (.linkStep 0 none) ∧ running.pau.runState = .running
    ∧ (inState .draining).pau.runState ≠ .running ∧ (0x80 : Half) ≠ 0xFFFF ∧ running.st.cardCount ≤ (0x80 : Half).toNat
    ∧ (0x7F : Half).toNat < running.st.cardCount :=
  ⟨asked_reading _ _, by decide +kernel⟩

/-- A record with its check filled in (R8). -/
def checked (data : List Byte) : List Byte :=
  data.take 2 ++ natToBytes 2 (65536 - halfSum (data.drop 2) % 65536) ++ data.drop 4

/-- The host part of a card of bench 0 with one line of order 3, 4 units. -/
def cardBytes (state flags cls : Byte) (exposure : Nat) : List Byte :=
  checked ([state, flags, 0, 0, 0, cls, 0xFF, 0xFF, 1, 0] ++ natToBytes 2 exposure ++ natToBytes 4 0x40005
    ++ [3, 0, 4, 0] ++ List.replicate 44 0)

theorem test_CardStepTakesOrReturnsTheCard_applies :
    (asked (.cardStep 0 5) running).reading 0 (.cardStep 0 5) ∧ running.pau.runState = .running
    ∧ (cardBytes 1 0 1 599).length = 64 ∧ running.holdsCard 5 = false ∧ (staging card running).holdsCard 5 = true
    ∧ (parseCard (cardBytes 2 0 1 0)).state ≠ 1 ∧ (parseCard (cardBytes 1 0 1 0)).state = 1
    ∧ checkCorrect ((cardBytes 1 0 1 0).set 4 1) = false
    ∧ checkCorrect (cardBytes 1 0 3 0) = true ∧ (parseCard (cardBytes 1 0 3 0)).fieldsGood running.st 0 = false
    ∧ (parseCard (cardBytes 1 0 1 600)).fieldsGood running.st 0 = true ∧ (parseCard (cardBytes 1 0 1 600)).spent running.live = true
    ∧ (parseCard (cardBytes 1 2 1 599)).spent running.live = false ∧ (parseCard (cardBytes 1 2 1 599)).withdraw = true
    ∧ (parseCard (cardBytes 1 0 1 599)).withdraw = false ∧ classOf (parseCard (cardBytes 1 0 1 599)).cls = some .chilled :=
  ⟨asked_reading _ _, by decide +kernel⟩

def missing (m : MissRead) (ls : List Lookup) (s : State) : State :=
  { s with ttu := { cache := [], misses := ls, inFlight := some m } }

theorem test_TagTableReadAnswersItsWaiters_applies :
    (asked (.tagEntry 0x40001) (missing { tag := 0x40001, stale := true }
      [{ tag := 0x40001, asker := .place 2, before := true }] running)).reading 0 (.tagEntry 0x40001)
    ∧ (missing { tag := 0x40001, stale := true } [] running).ttu.inFlight = some { tag := 0x40001, stale := true } :=
  ⟨asked_reading _ _, by decide +kernel⟩

/-- The window of the plan is tags 40000h to 40FFFh. -/
theorem test_TagTableReadAnswersItsWaiters_lookups :
    let waiting : Lookup := { tag := 0x40002, asker := .place 2, before := false }
    let full := missing { tag := 0x40002, stale := false } (List.replicate 8 waiting) running
    let hit : State := { running with ttu := { running.ttu with cache := [{ tag := 0x40FFF, meaning := .barred }] } }
    State.reset.active = false ∧ running.active = true
    ∧ running.st.tagBase ≤ (0x40000 : Word).toNat ∧ (0x40FFF : Word).toNat < running.st.tagBase + 2 ^ running.st.tagExp
    ∧ ¬(0x41000 : Word).toNat < running.st.tagBase + 2 ^ running.st.tagExp
    ∧ ¬running.st.tagBase ≤ (0x3FFFF : Word).toNat
    ∧ hit.ttu.cache.find? (fun e => e.tag == 0x40FFF) = some { tag := 0x40FFF, meaning := .barred }
    ∧ (∀ e ∈ hit.ttu.cache, e.tag ≠ 0x40000) ∧ 8 ≤ full.ttu.misses.length
    ∧ (missing { tag := 0x40002, stale := false } [waiting] running).ttu.misses.length < 8
    ∧ full.ttu.inFlight = some { tag := 0x40002, stale := false } ∧ running.ttu.misses = [] ∧ running.ttu.inFlight = none := by
  decide +kernel

theorem test_TranslationOfATableEntry_applies :
    ([0x00010000, 0x0001007F, 0xFF010080, 0x0002003F, 0x00020040, 0x00030000, 0x00040000, 0x00000005] : List Word).map
        (translationOf plan)
      = [.card 0, .card 127, .none, .order 63, .none, .barred, .none, .none]
    ∧ (0xFF010080 : Word).toNat % 2 ^ 24 = (0x00010080 : Word).toNat % 2 ^ 24
    ∧ ({ tag := 0x40001, stale := false } : MissRead).stale = false
    ∧ (missing { tag := 0x40001, stale := false } [{ tag := 0x40001, asker := .arrival 9, before := false }] running).ttu.misses
      = [{ tag := 0x40001, asker := .arrival 9, before := false }]
    ∧ (missing { tag := 0x40001, stale := false } [] running).ttu.misses = [] := by decide +kernel

/-- Position q waits for the record of order 3 with the tag of the manual's record. -/
def binding (stale : Bool) : Position :=
  { Position.empty with state := .binding, step := .read, order := some 3, scanned := 0x12345678, stale := stale }

theorem test_OrderRecordReadBindsOrRefuses_applies :
    (asked (.orderRecord 18 3) (placed 18 (binding false) running)).reading 0 (.orderRecord 18 3)
    ∧ orderBytes.length = 32 ∧ (binding true).stale = true ∧ (binding false).stale = false
    ∧ (binding false).state = .binding ∧ (binding false).step = .read ∧ (binding false).order = some 3
    ∧ (parseOrder (orderBytes.set 0 2)).state ≠ 1 ∧ (parseOrder orderBytes).state = 1
    ∧ checkCorrect (orderBytes.set 6 4) = false ∧ checkCorrect orderBytes = true
    ∧ (parseOrder orderBytes).tag ≠ 0x40200 ∧ (parseOrder orderBytes).tag = (binding false).scanned
    ∧ (parseOrder orderBytes).bench ≠ (posBench 15).val ∧ (parseOrder orderBytes).bench = (posBench 18).val
    ∧ ¬(parseOrder orderBytes).deadline.toNat < 86400 ∧ (parseOrder orderBytes).deadline.toNat < 86401 :=
  ⟨asked_reading _ _, by decide +kernel⟩

theorem test_DrainEndsAtItsEndCondition_applies :
    running.pau.runState ≠ .draining ∧ (inState .draining).pau.runState = .draining ∧ (inState .draining).lnc.calls = []
    ∧ (∀ p : Port, (inState .draining).lane p = []) ∧ (inState .draining).mga.merge = .idle
    ∧ (calling (call .called .none) (inState .draining)).lnc.calls ≠ [] := by decide +kernel

theorem test_DrainEndsAtItsEndCondition_clauses :
    card ∈ (staging card running).staged 0 ∧ card.bench = 0 ∧ (call .accepted .none).state = .accepted
    ∧ (call .uncertain .none).state ≠ .called ∧ (call .uncertain .none).state ≠ .accepted
    ∧ ((placed 2 (position .full) (inState .draining)).position 2).state.holds = true
    ∧ ((placed 2 (position .full) (inState .draining)).position 2).order = some 3
    ∧ ((inState .draining).bench 3).link.up = true ∧ ((inState .draining).bench 3).link.queue.length < 63 := by decide +kernel

def sweepDue : State := withPau (fun p => { p with sweepTimer := some 1 }) running

theorem test_TimedSweepTimerBeginsASweep_applies :
    sweepDue.active = true ∧ sweepDue.pau.sweepTimer ≠ none ∧ sweepDue.pau.sweep = none ∧ sweepDue.live.sweepCode ≠ 0
    ∧ (withPau (fun p => { p with sweepTimer := some 1 }) sweeping).pau.sweepTimer ≠ none
    ∧ (withPau (fun p => { p with sweepTimer := some 1 }) sweeping).pau.sweep ≠ none
    ∧ State.reset.active = false ∧ running.pau.sweepTimer = none := by decide +kernel

theorem test_FloorClockSecond_applies : State.reset.active = false ∧ running.active = true := by decide +kernel

def exposure : Exposure :=
  { card := 5, seq := 0, cls := .frozen, base := 10, elapsed := 350, warnAt := some 300, recallAt := some 360, port := 0,
    warned := false, recalled := false, overdue := false }

def exposed (r : Exposure) : State := { running with exposures := [r] }

theorem test_TimedEventsWhenDue_applies :
    running.active = true ∧ ((placed 2 (position .bound) running).position 2).state = .bound
    ∧ ((placed 2 (position .bound) running).position 2).late = false
    ∧ ((placed 2 (position .bound) running).position 2).deadline.toNat < running.pau.floorClock.toNat
    ∧ (placed 2 { position .bound with deadline := 1000 } running).lateDue 2 = false
    ∧ (exposed exposure).recordOf 5 = some exposure ∧ exposure.warnDue = true ∧ exposure.recallDue = true
    ∧ { exposure with elapsed := 349 }.recallDue = false ∧ (exposed exposure).mga.holdTimer = 0
    ∧ running.recordOf 5 = none ∧ (staging { card with timeTaken := 879 } running).stagedCard 5 = some { card with timeTaken := 879 }
    ∧ running.live.readyWait ≠ 0 ∧ (879 : Word).toNat + running.live.readyWait < running.pau.floorClock.toNat
    ∧ ¬(880 : Word).toNat + running.live.readyWait < running.pau.floorClock.toNat
    ∧ { exposure with elapsed := 289 }.warnDue = false ∧ { exposure with warned := true }.warnDue = false
    ∧ { exposure with warned := true }.recallDue = true ∧ State.reset.active = false
    ∧ { exposed exposure with mga := { running.mga with holdTimer := 1 } }.mga.holdTimer ≠ 0
    ∧ (staging card (exposed exposure)).taking 5 0 = some card ∧ (exposed exposure).taking 5 0 = none
    ∧ (withPau (fun p => { p with live := some { ways with readyWait := 0 } }) running).live.readyWait = 0
    ∧ running.stagedCard 5 = none := by decide +kernel

/-- Live settings with give-up off. -/
def patient (s : State) : State := withPau (fun p => { p with live := some { ways with giveUp := false } }) s

theorem test_RefusalsAndResends_applies :
    (call .called .none).retries < 2 ^ (running.live.retryCode + 1) - 1
    ∧ 2 ^ (running.live.retryCode + 1) - 1 ≤ { call .called .none with retries := 1 }.retries
    ∧ running.live.giveUp = true ∧ (patient running).live.giveUp = false
    ∧ (calling (call .called (.answer 1)) running).findCall 7 = some (call .called (.answer 1))
    ∧ (calling (call .called (.answer 1)) running).active = true ∧ (call .called (.answer 1)).answerRuns = true
    ∧ (call .accepted (.answer 1)).answerRuns = false ∧ (call .called (.gap 1)).gapRuns = true
    ∧ (call .called (.answer 1)).gapRuns = false ∧ (gridGood 3 (calling (call .called (.answer 1)) running)).active = true
    ∧ (gridGood 3 (calling (call .called (.answer 1)) running)).findCall (7 : Half).toNat = some (call .called (.answer 1))
    ∧ (gridGood 3 (calling (call .cancelling .none) running)).findCall (7 : Half).toNat = some (call .cancelling .none)
    ∧ (gridGood 3 (calling (call .inquiring .none) running)).findCall (7 : Half).toNat = some (call .inquiring .none)
    ∧ 1 ≤ (3 : Byte).toNat ∧ (3 : Byte).toNat ≤ 3 := by decide +kernel

theorem test_InquiryAndTransitTimers_applies :
    (calling (call .inquiring (.inquiry 1)) running).findCall 7 = some (call .inquiring (.inquiry 1))
    ∧ (calling (call .inquiring (.inquiry 1)) running).active = true ∧ (call .inquiring (.inquiry 1)).inquiryRuns = true
    ∧ (call .inquiring (.inquiry 1)).inquiries ≤ 2 ^ (running.live.retryCode + 1) - 1
    ∧ 2 ^ (running.live.retryCode + 1) - 1 < { call .cancelling (.inquiry 1) with inquiries := 2 }.inquiries
    ∧ (call .cancelling (.inquiry 1)).inquiryRuns = true ∧ (call .accepted .none).inquiryRuns = false
    ∧ (call .accepted .none).transit ≠ none ∧ (call .accepted .none).transitExpired = false
    ∧ { call .dispatched .none with transitExpired := true }.transitExpired = true
    ∧ { call .dispatched .none with transit := none }.transit = none := by decide +kernel

theorem test_MergeTimers_applies :
    running.active = true ∧ (merging (.tenure .recirc (some 1)) running).mga.merge = .tenure .recirc (some 1)
    ∧ (merging (.tenure (.port 0) (some 1)) (standing 0 (entry .releasing card) running)).head 0 = some (entry .releasing card)
    ∧ (merging (.swinging (.port 0) 1 true) running).mga.merge = .swinging (.port 0) 1 true
    ∧ { running with mga := { running.mga with holdTimer := 1 } }.mga.holdTimer ≠ 0 ∧ running.mga.holdTimer = 0
    ∧ running.mga.merge = .idle ∧ (merging (.tenure .recirc none) running).mga.merge = .tenure .recirc none := by decide +kernel

/-- Port 9 with its dispatch hold as given. -/
def holding (h : PortHold) (s : State) : State := setHold 9 h s

def refreshing : PortHold := { holding := true, refresh := some 1, expiry := some 1, wants := true }

theorem test_DispatchHoldTimers_applies :
    (holding refreshing running).active = true ∧ (holding refreshing running).glc.link.up = true
    ∧ ((holding refreshing running).hold 9).refresh ≠ none ∧ ((holding refreshing running).hold 9).wants = true
    ∧ ((holding { refreshing with wants := false } running).hold 9).expiry ≠ none
    ∧ ((holding { refreshing with wants := false } running).hold 9).wants = false
    ∧ (gridDown running).glc.link.up = false ∧ (running.hold 9).refresh = none ∧ (running.hold 9).expiry = none := by
  decide +kernel

theorem test_GridLinkDownPutsCallsInDoubt_applies :
    (gridDown running).glc.link.up = false ∧ (inState .stopped).glc.link.up = true ∧ (inState .stopped).active = false
    ∧ running.glc.link.up = true ∧ running.active = true := by decide +kernel

/-- Both the Grid Link and Bench Link 2 send a frame. -/
def sendingWith (gs : List GridMsg) (ms : List BenchMsg) (due : Bool) : State :=
  { running with
    glc := { running.glc with link := { running.glc.link with queue := gs, sending := some .lineCheck, lineCheckDue := due } }
    blc := running.blc.set 2 { running.bench 2 with
      link := { (running.bench 2).link with queue := ms, sending := some .lineCheck, lineCheckDue := due } } }

theorem test_LinkSendingOrder_applies :
    running.glc.link.sending = none ∧ (running.bench 2).link.sending = none
    ∧ (sendingWith [.recircGrant] [.closeCue 3] false).glc.link.sending ≠ none
    ∧ (sendingWith [.recircGrant] [.closeCue 3] false).glc.link.queue = [.recircGrant]
    ∧ ((sendingWith [.recircGrant] [.closeCue 3] false).bench 2).link.sending ≠ none
    ∧ ((sendingWith [.recircGrant] [.closeCue 3] false).bench 2).link.queue = [.closeCue 3]
    ∧ (sendingWith [] [] true).glc.link.queue = [] ∧ (sendingWith [] [] true).glc.link.lineCheckDue = true
    ∧ (sendingWith [] [] false).glc.link.lineCheckDue = false ∧ ((sendingWith [] [] true).bench 2).link.lineCheckDue = true
    ∧ ((sendingWith [] [] false).bench 2).link.queue = [] ∧ ((sendingWith [] [] false).bench 2).link.lineCheckDue = false := by
  decide +kernel

theorem test_DroppedFramesAreCounted_applies :
    frameVerdict gridPayloadLength [0xC5, 0x21, 0x02] = .incomplete ∧ frameVerdict gridPayloadLength [0xC5, 0x21, 49] = .dropped
    ∧ frameVerdict gridPayloadLength [0xC5, 0x21, 48] = .incomplete
    ∧ frameVerdict panelPayloadLength [0xC5, 0x42] = .incomplete
    ∧ frameVerdict panelPayloadLength (frameBytes 0x21 [0, 0]) = .dropped
    ∧ frameVerdict gridPayloadLength lineCheckFrame = .good 0x00 [] := by decide +kernel

/-- Bytes that agree with those the assembler holds, and bytes that do not. -/
theorem test_DroppedFramesAreCounted_held :
    let held : List Byte := [0xC5, 0x21]
    held <+: [0xC5, 0x21, 0x02] ∧ ¬held <+: [0xC5, 0x22, 0x02] ∧ ([0xC5, 0x21, 49] : List Byte) <+: [0xC5, 0x21, 49, 0xC5]
    ∧ held <+: [0xC5, 0x21, 49] ∧ ¬(([0xC5, 0x22, 49] : List Byte) <+: held ∨ held <+: [0xC5, 0x22, 49])
    ∧ frameVerdict gridPayloadLength [0xC5, 0x21, 49] ≠ .incomplete
    ∧ frameVerdict gridPayloadLength [0xC5, 0x21, 0x02] ≠ .dropped
    ∧ frameVerdict panelPayloadLength [0xC5, 0x41, 49] ≠ .incomplete
    ∧ frameVerdict panelPayloadLength [0xC5, 0x42] ≠ .dropped := by decide +kernel

theorem test_LineChecksKeepLinksUp_applies :
    running.glc.link.up = true ∧ State.reset.glc.link.up = false ∧ State.reset.active = false
    ∧ (gridDown running).glc.link.up = false ∧ (gridDown running).active = true ∧ (running.bench 3).link.up = true
    ∧ ((linkDown 3 running).bench 3).link.up = false := by decide +kernel

/-- The plan with pair 0's shared port OFF. -/
def unshared (s : State) : State := withPau (fun p => { p with structural := some { plan with sharedMode := #v[0, 2] } }) s

theorem test_GridMessagesDiscardedOrReported_applies :
    (gridGood 3 (inState .faulted)).active = false ∧ (gridGood 3 running).active = true
    ∧ (gridGood 3 running).findCall (7 : Half).toNat = none ∧ 10 ≤ (10 : Byte).toNat ∧ 10 ≤ (0xFF : Byte).toNat
    ∧ (8 : Port).val = (8 : Byte).toNat ∧ (gridGood 3 (unshared running)).st.portPresent 8 = false
    ∧ (gridGood 3 (unshared running)).st.portPresent 9 = true
    ∧ (0 : Byte).toNat = 0 ∧ 4 ≤ (4 : Byte).toNat ∧ 5 ≤ (5 : Byte).toNat
    ∧ ([.callAccept 7, .callRefuse 7 1, .arrived 0 0x40005, .recircClear, .returnHold 9] : List Instr).all (fun c =>
        !(gridGood (gridPayload c) (inState .faulted)).active && (gridGood (gridPayload c) running).active) = true :=
  by decide +kernel

theorem test_CallAnswersMoveTheCall_applies :
    (gridGood 2 (calling (call .called (.answer 1)) running)).active = true
    ∧ ([.called, .accepted, .dispatched, .uncertain, .inquiring, .cancelling] : List CallState).all (fun st =>
        (gridGood 2 (calling (call st .none) running)).findCall (7 : Half).toNat == some (call st .none)) = true
    ∧ ([.called, .accepted, .dispatched, .uncertain, .inquiring, .cancelling] : List CallState).all (fun st =>
        (gridGood 3 (calling (call st .none) running)).findCall (7 : Half).toNat == some (call st .none)) = true
    ∧ (gridGood 3 (calling (call .called (.answer 1)) running)).active = true
    ∧ (call .inquiring .none).cancel = none ∧ { call .inquiring .none with cancel := some .drain }.cancel ≠ none
    ∧ (call .inquiring .none).dispatchSeen = false ∧ { call .inquiring .none with dispatchSeen := true }.dispatchSeen = true
    ∧ 1 ≤ (1 : Byte).toNat ∧ 1 ≤ (4 : Byte).toNat ∧ (4 : Byte).toNat ≤ 4 := by decide +kernel

/-- The call with dispatch seen, to a port. -/
def sent (p : Port) : Call := { call .dispatched .none with port := p, dispatchSeen := true }

theorem test_ArrivedMatchesItsCall_applies :
    (gridGood 6 running).active = true ∧ (0 : Port).val = (0 : Byte).toNat ∧ (gridGood 6 running).st.portPresent 0 = true
    ∧ ((gridGood 6 (standing 0 (entry .queued card) running)).lane 0).any (fun e => e.tag == 0x40005) = true
    ∧ (gridGood 6 (setLane 0 [entry .queued card, entry .queued card] running)).st.laneDepth[(0 : Port)] ≤ 2
    ∧ ((gridGood 6 (standing 0 (entry .queued card) running)).lane 0).length < 2
    ∧ (gridGood 6 (calling (sent 0) running)).arrivalCall 0 0x40005 = some (sent 0) ∧ (sent 0).dispatchSeen = true
    ∧ (gridGood 6 (calling (sent 1) running)).arrivalCall 0 0x40005 = some (sent 1) ∧ (sent 1).port ≠ 0
    ∧ (gridGood 6 (calling (sent 1) running)).mayUse card 1 = true ∧ (gridGood 6 (calling (sent 1) running)).mayUse card 0 = true
    ∧ (gridGood 6 (calling (call .accepted .none) running)).arrivalCall 0 0x40005 = some (call .accepted .none)
    ∧ (call .accepted .none).dispatchSeen = false
    ∧ (gridGood 6 (calling (sent 1) running)).arrivalCall 9 0x40005 = some (sent 1)
    ∧ ((gridGood 6 (calling (sent 1) running)).mayUse card 1 && (gridGood 6 (calling (sent 1) running)).mayUse card 9) = false
    ∧ (gridGood 6 running).arrivalCall 0 0x40005 = none := by decide +kernel

theorem test_DockedPresentsOrEndsTheHead_applies :
    (gridGood 6 running).active = true ∧ (gridGood 6 running).st.portPresent 0 = true
    ∧ (gridGood 6 (standing 0 (stranger 0x99) running)).head 0 = some (stranger 0x99) ∧ (stranger 0x99).state = .queued
    ∧ (stranger 0x99).card = none ∧ (entry .queued card).card = some card ∧ { card with recalled := true }.recalled = true
    ∧ card.recalled = false ∧ { card with withdrawn := true }.withdrawn = true ∧ card.withdrawn = false
    ∧ (∀ b ∈ card.benches, ((gridGood 6 (staffed 0 .closed running)).bench b).staffing = .closed)
    ∧ (∃ b ∈ card.benches, ((gridGood 6 running).bench b).staffing = .staffed)
    ∧ (∃ b ∈ card.benches, ((gridGood 6 (staffed 0 .onBreak running)).bench b).staffing = .onBreak)
    ∧ (∀ b ∈ card.benches, ((gridGood 6 (staffed 0 .onBreak running)).bench b).staffing ≠ .staffed)
    ∧ (gridGood 6 (standing 0 (entry .presenting card) running)).head 0 = some (entry .presenting card)
    ∧ (gridGood 6 running).head 0 = none := by decide +kernel

theorem test_DepartedEndsTheHead_applies :
    (gridGood 6 running).active = true ∧ (gridGood 6 running).st.portPresent 9 = true ∧ (9 : Port).val = (9 : Byte).toNat
    ∧ ([.queued, .presenting, .waitingBench, .ended, .releasing, .stuck] : List EntryState).all (fun st =>
        (gridGood 6 (standing 9 (entry st card) running)).head 9 == some (entry st card)) = true
    ∧ (entry .releasing card).tag = 0x40005 ∧ (gridGood 6 running).head 9 = none := by decide +kernel

theorem test_RecirculationAndReturnHoldMessages_applies :
    (gridGood 0 running).active = true ∧ (gridGood 2 running).active = true
    ∧ (gridGood 0 (merging (.tenure .recirc none) running)).mga.merge.holder = some .recirc
    ∧ (gridGood 0 running).mga.merge.holder ≠ some .recirc
    ∧ (gridGood 0 { running with mga := { running.mga with recircTimedOut := true } }).mga.recircTimedOut = true
    ∧ (gridGood 0 { running with mga := { running.mga with recircFlag := true } }).mga.recircTimedOut = false
    ∧ (gridGood 0 { running with mga := { running.mga with recircFlag := true } }).mga.recircFlag = true
    ∧ (gridGood 0 running).mga.recircFlag = false ∧ (gridGood 2 running).live.holdReaction = true
    ∧ (gridGood 2 (withPau (fun p => { p with live := some { ways with holdReaction := false } }) running)).live.holdReaction
      = false := by decide +kernel

theorem test_BenchLinkDownClosesTheBench_applies :
    ((linkDown 3 running).bench 3).link.up = false ∧ (running.bench 3).link.up = true
    ∧ ((staffed 3 .closed running).bench 3).link.up = true ∧ ((staffed 3 .closed running).bench 3).staffing = .closed
    ∧ (running.bench 3).staffing ≠ .closed := by decide +kernel

def awaited (ty : PanelType) (p : Byte) : Awaited := { ty := ty, port := 0xFF, p := p, ticket := 0 }

theorem test_PanelMessagesRefusedInOrder_applies :
    (panelFields (.place 0 16 0x40005)).map (fun m => m.inRange) = some false
    ∧ (panelFields (.pick 0 0 15 1)).map (fun m => m.inRange) = some true
    ∧ (panelFields (.pick 0 0 15 0)).map (fun m => m.inRange) = some false
    ∧ (panelFields (.signOn 0 0)).map (fun m => m.inRange) = some false
    ∧ ((ticketed 0 .place (awaiting 0 (some (awaited .place 4)) running)).bench 0).awaited = some (awaited .place 4)
    ∧ ((ticketed 0 .place running).bench 0).awaited = none ∧ (ticketed 0 .place (inState .faulted)).pau.runState = .faulted
    ∧ (ticketed 0 .place running).pau.runState ≠ .faulted ∧ (ticketed 0 .place State.reset).st.benchEnabled 0 = false
    ∧ (ticketed 0 .place running).st.benchEnabled 0 = true
    ∧ ((ticketed 0 .place (staffed 0 .closed running)).bench 0).staffing = .closed
    ∧ ((ticketed 0 .place (staffed 0 .onBreak running)).bench 0).staffing ≠ .staffed := by decide +kernel

/-- Every panel message of bench 0 in range is taken, but for what the bench's staffing bars. -/
theorem test_panel_messages_are_taken :
    ([.signOn 0 9, .signOff 0, .breakOff 0, .back 0, .place 0 15 0x40005, .remove 0 0, .full 0 15, .pick 0 8 15 1, .short 0 0,
      .toteDone 0 1] : List Instr).all (fun i => match panelFields i with
        | some m => ((ticketed m.bench m.ty running).bench m.bench).awaited.isNone
            && (ticketed m.bench m.ty running).panelRefusal m.bench m.ty m.inRange == none
        | none => false) = true := by decide +kernel

theorem test_panel_messages_are_the_awaited_one :
    running.panelTaken { bench := 0, ty := .signOff, port := 0xFF, p := 0xFF, inRange := true }
    ∧ (staffed 0 .closed running).panelTaken { bench := 0, ty := .signOn, port := 0xFF, p := 0xFF, inRange := true }
    ∧ (staffed 0 .onBreak running).panelTaken { bench := 0, ty := .back, port := 0xFF, p := 0xFF, inRange := true }
    ∧ running.panelTaken { bench := 0, ty := .breakOff, port := 0xFF, p := 0xFF, inRange := true } :=
  ⟨⟨by decide +kernel, by decide +kernel⟩, ⟨by decide +kernel, by decide +kernel⟩, ⟨by decide +kernel, by decide +kernel⟩,
    ⟨by decide +kernel, by decide +kernel⟩⟩

/-- The fields of a message of bench 0 at position 15. -/
def atLast (ty : PanelType) (port : Byte) : PanelFields := { bench := 0, ty := ty, port := port, p := 15, inRange := true }

theorem test_StaffingMessagesChangeTheBench_applies :
    ((panelState (atLast .signOn 0xFF) (staffed 0 .closed running)).bench 0).staffing = .closed
    ∧ ((panelState (atLast .signOn 0xFF) running).bench 0).staffing = .staffed
    ∧ ((panelState (atLast .back 0xFF) (staffed 0 .onBreak running)).bench 0).staffing = .onBreak := by decide +kernel

theorem test_PlaceIsTakenByItsPosition_applies :
    (15 : Byte).toNat = (15 : Fin 16).val ∧ ((ticketed 0 .place (inState .faulted)).bench 0).awaited = none
    ∧ (inState .faulted).pau.runState = .faulted ∧ (panelState (atLast .place 0xFF) (inState .stopped)).active = false
    ∧ (panelState (atLast .place 0xFF) running).active = true
    ∧ ((panelState (atLast .place 0xFF) running).position 15).state = .empty
    ∧ ((panelState (atLast .place 0xFF) running).position 15).stale = false
    ∧ ((panelState (atLast .place 0xFF) (placed 15 (position .full) running)).position 15).state ≠ .empty
    ∧ ((panelState (atLast .place 0xFF) (placed 15 { Position.empty with stale := true } running)).position 15).stale = true := by
  decide +kernel

theorem test_PlaceIsTakenByItsPosition_taken :
    (inState .stopped).panelTaken (atLast .place 0xFF) ∧ running.panelTaken (atLast .place 0xFF)
    ∧ (placed 15 (position .full) running).panelTaken (atLast .place 0xFF)
    ∧ (placed 15 { Position.empty with stale := true } running).panelTaken (atLast .place 0xFF) :=
  ⟨⟨by decide +kernel, by decide +kernel⟩, ⟨by decide +kernel, by decide +kernel⟩, ⟨by decide +kernel, by decide +kernel⟩,
    ⟨by decide +kernel, by decide +kernel⟩⟩

/-- In every state of a position, REMOVE and FULL are taken and find it so. -/
theorem test_RemoveEndsABinding_FullStopsAPosition_apply :
    ([.bound, .complete, .full, .closing, .binding, .empty] : List PosState).all (fun st =>
      let s := placed 15 (position st) running
      [PanelType.remove, .full].all (fun ty =>
        ((ticketed 0 ty s).bench 0).awaited.isNone && (ticketed 0 ty s).panelRefusal 0 ty true == none
        && (panelState (atLast ty 0xFF) s).position 15 == position st)) = true
    ∧ (position .bound).order = some 3 := by decide +kernel

/-- A REMOVE of bench 0's position 15 while its PLACE is awaited. -/
theorem test_RemoveEndsABinding_over_a_place :
    ((ticketed 0 .remove (awaiting 0 (some (awaited .place 15)) running)).bench 0).awaited = some (awaited .place 15)
    ∧ (awaited .place 15).ty = .place ∧ (awaited .place 15).p = 15 := by decide +kernel

/-- Card 5 at port 0 with its line at position 15, 4 units to pick, lit. -/
def shown : CardCtx :=
  { card with portPresented := some 0, timePresented := some 990,
              lines := [{ Line.fresh (3, 4) with pos := some 15, lit := true }] }

def presenting : State := placed 15 (position .bound) (standing 0 (entry .presenting shown) running)

theorem test_PickMovesUnitsOrIsRefused_applies :
    (0 : Port).val = (0 : Byte).toNat ∧ (panelState (atLast .pick 0) presenting).head 0 = some (entry .presenting shown)
    ∧ (entry .presenting shown).card = some shown ∧ (panelState (atLast .pick 0) presenting).st.portPresent 0 = true
    ∧ (0 : Port) ∈ reachedPorts 0 ∧ (8 : Port) ∈ reachedPorts 0 ∧ (2 : Port) ∉ reachedPorts 0
    ∧ shown.lines.find? (Line.openAt 15) = some { Line.fresh (3, 4) with pos := some 15, lit := true }
    ∧ (∀ l ∈ shown.lines, ¬(l.result = none ∧ l.pos = some 14))
    ∧ (4 : Nat) < (5 : Byte).toNat ∧ (3 : Byte).toNat < 4 ∧ 4 = (4 : Byte).toNat
    ∧ (entry .ended (shown.resolveLines (fun _ => true) .recalled)).state = .ended
    ∧ (∃ l ∈ (shown.resolveLines (fun _ => true) .recalled).lines, l.pos = some 15 ∧ l.result = some .recalled) := by
  decide +kernel

theorem test_PickMovesUnitsOrIsRefused_without_a_card :
    (standing 0 (stranger 0x99) running).panelTaken (atLast .pick 0)
    ∧ (panelState (atLast .pick 0) (standing 0 (stranger 0x99) running)).head 0 = some (stranger 0x99)
    ∧ (stranger 0x99).card = none ∧ running.panelTaken (atLast .pick 10) ∧ 10 ≤ (10 : Byte).toNat :=
  ⟨⟨by decide +kernel, by decide +kernel⟩, by decide +kernel, by decide +kernel, ⟨by decide +kernel, by decide +kernel⟩,
    by decide +kernel⟩

theorem test_PickMovesUnitsOrIsRefused_taken :
    presenting.panelTaken (atLast .pick 0)
    ∧ (standing 0 (entry .ended (shown.resolveLines (fun _ => true) .recalled)) running).panelTaken (atLast .pick 0)
    ∧ (standing 0 (entry .queued card) running).panelTaken (atLast .pick 0) :=
  ⟨⟨by decide +kernel, by decide +kernel⟩, ⟨by decide +kernel, by decide +kernel⟩, ⟨by decide +kernel, by decide +kernel⟩⟩

def ofPort (ty : PanelType) (port : Byte) : PanelFields := { bench := 0, ty := ty, port := port, p := 0xFF, inRange := true }

theorem test_ShortAndToteDoneEndTheBenchLines_applies :
    [PanelType.short, .toteDone].all (fun ty =>
      ((panelState (ofPort ty 0) presenting).presentingHead 0 0 == some (0, shown))
      && (panelState (ofPort ty 10) presenting).presentingHead 0 10 == none) = true
    ∧ shown.lines.filter (fun l => l.result.isNone && l.bench == some 0) ≠ []
    ∧ shown.lines.filter (fun l => l.result.isNone && l.bench == some 1) = [] := by decide +kernel

theorem test_ShortAndToteDoneEndTheBenchLines_taken :
    presenting.panelTaken (ofPort .short 0) ∧ presenting.panelTaken (ofPort .toteDone 0)
    ∧ presenting.panelTaken (ofPort .short 10) ∧ presenting.panelTaken (ofPort .toteDone 10) :=
  ⟨⟨by decide +kernel, by decide +kernel⟩, ⟨by decide +kernel, by decide +kernel⟩, ⟨by decide +kernel, by decide +kernel⟩,
    ⟨by decide +kernel, by decide +kernel⟩⟩

theorem test_CountingAtThePosition_applies :
    running.holder 3 = none ∧ (placed 15 (position .bound) running).holder 3 = some 15
    ∧ (placed 63 { position .bound with linesCompleted := 1 } running).holder 3 = some 63 ∧ (position .bound).linesExpected = 2
    ∧ min (1 + 1) 0xFFFF = 2 ∧ min (0 + 1) 0xFFFF ≠ 2 ∧ (position .closing).state ≠ .bound := by decide +kernel

def requesting (p : Port) (s : State) : State :=
  { s with mga := { s.mga with requests := [{ port := p, tag := 0x40005, recalled := false, frozen := false }] } }

theorem test_MergeGrantsKeepTheirCounts_applies :
    (requesting 9 running).mga.requests.find? (fun y => y.port == 9)
      = some { port := 9, tag := 0x40005, recalled := false, frozen := false }
    ∧ (requesting 9 running).mga.choose false 0 = some (.port 9) := by decide +kernel

theorem test_PutWallAnswersQuestions_applies :
    (placed 15 (position .bound) running).ordersApart ∧ (running.ordersApart ∧ ∀ q : PutPos, (running.position q).order ≠ some 3)
    ∧ ((placed 15 (position .bound) running).position 15).order = some 3 ∧ posBench 15 ∈ card.benches
    ∧ posBench 16 ∉ card.benches ∧ (binding false).state = .binding := by
  refine ⟨⟨fun q r j hq hr => ?_, by decide +kernel⟩, ⟨⟨fun q r j hq hr => ?_, by decide +kernel⟩, by decide +kernel⟩,
    by decide +kernel⟩
  · have one : ∀ q : PutPos, ((placed 15 (position .bound) running).position q).order ≠ none → q = 15 := by decide +kernel
    rw [one q (by simp [hq]), one r (by simp [hr])]
  · have none_there : ∀ q : PutPos, (running.position q).order = none := by decide +kernel
    simp [none_there q] at hq

theorem test_OpenPorts_applies :
    running.openOwn 0 0 = true ∧ running.portRoom (sharedPort 1) = true ∧ running.st.portPresent 9 = true
    ∧ (standing 9 (entry .stuck card) running).lane 9 = [entry .stuck card] ∧ (entry .stuck card).state = .stuck := by
  decide +kernel

theorem test_SettlingFrame_applies :
    State.reset.active = false ∧ running.active = true ∧ (settle running).pau.runState = running.pau.runState := by decide +kernel

/-- A card of bench 0 whose order is BOUND, and a TWIN card beside it. -/
def choosing : State := placed 2 (position .bound) (setStaged 0 [card, { card with card := 6, seq := 1, twin := true }] running)

theorem test_SettlingFrame_choices :
    choosing.ownChoice 0 = some (card, 0) ∧ (choosing.sharedChoice 0).map (fun x => (x.1.card, x.2)) = some (6, 8)
    ∧ choosing.choices ≠ [] ∧ running.choices = [] ∧ (0 : Port).val < 8 ∧ (9 : Port) = sharedPort 1 ∧ card.twin = false := by
  decide +kernel

/-- A state with a held card, a bound order and a read in flight meets the invariants, and steps. -/
def inUse : State := asked .stamp (staging card (placed 15 (position .bound) running))

theorem test_EveryStepKeepsTheCapacities_applies :
    inUse.bounded ∧ ∃ s, step inUse = .next s :=
  ⟨⟨by unfold State.areaAligned; decide +kernel, by unfold State.lookupsBounded; decide +kernel,
    by unfold State.queuesBounded; decide +kernel, by decide +kernel⟩, _, rfl⟩

theorem test_EveryStepKeepsOrdersAtOnePosition_applies :
    inUse.ordersApart ∧ ∃ s, step inUse = .next s := by
  refine ⟨⟨fun q r j hq hr => ?_, by decide +kernel⟩, _, rfl⟩
  have one : ∀ q : PutPos, (inUse.position q).order ≠ none → q = 15 := by decide +kernel
  rw [one q (by simp [hq]), one r (by simp [hr])]

theorem test_EveryStepAccountsForEveryUnit_applies :
    inUse.unitsAccounted ∧ inUse.held = [card] ∧ ∃ s, step inUse = .next s := by
  refine ⟨?_, by decide +kernel, _, rfl⟩
  have held : inUse.held = [card] := by decide +kernel
  intro c hc
  rw [held, List.mem_singleton] at hc
  subst hc
  unfold CardCtx.accounted Line.accounted
  decide +kernel

/-! ## One step of a few commands -/

theorem test_front_command_of_the_queue_runs :
    (match step { State.reset with pending := [.areaLo 0x12345FFF, .areaHi 7] } with
      | .next s => (s.pau.areaLo, s.pau.areaHi, s.pending)
      | _ => (0, 0, [])) = (0x12345000, 0, [Instr.areaHi 7]) := by decide +kernel

theorem test_wrong_length_data_stops :
    exec (.cardReadReturn 0 []) (asked (.cardStep 0 5) running) matches .fault .readDataLength := by decide +kernel

/-- The state that a command gives; the state before for a stop. -/
def after (c : Instr) (s : State) : State :=
  match exec c s with
  | .next t => t
  | _ => s

/-- A frame that fails its CRC holds a LINE_CHECK and the first byte of another frame: the bytes give an error and the
LINE_CHECK, and the assembler is left with the last byte. -/
theorem test_frame_within_a_dropped_frame_is_found :
    let bytes : List Byte := [0xC5, 0x00, 0x04, 0xC5, 0x00, 0x00, 0x0F, 0x1D, 0xC5]
    let dropped := after (.gridFrameError bytes) running
    gridCommands [] bytes = ([.gridFrameError bytes, .gridLineCheck], [0xC5])
    ∧ dropped.glc.link.held = [0xC5, 0x00, 0x00, 0x0F, 0x1D, 0xC5] ∧ dropped.ntu.counters.gridFrameErrors = 1
    ∧ (after .gridLineCheck dropped).glc.link.held = [0xC5] := by decide +kernel

/-- A call whose transit timeout expired once ends by a misrouted arrival: the card's flags are MISROUTED and LATE_ARRIVAL. -/
theorem test_misroute_of_a_late_tote :
    let late : Call := { sent 1 with transitExpired := true }
    let s := after (.arrived 9 0x40005) (calling late running)
    (s.bus.posted.filter (fun w => w.addr == s.cardAddr 5 + 0x40)).map (fun w => w.data.getD 2 0) = [0x0A] := by decide +kernel

/-- A recall found before the warning of the same second: the record is warned too, once. -/
theorem test_recall_acts_on_its_warning_first :
    ((after (.exposureRecall 5) (exposed exposure)).exposures.map (fun r => (r.warned, r.recalled))) = [(true, true)]
    ∧ ((after (.exposureRecall 5) (staging card (exposed exposure))).ntu.counters.bench[(0 : Bench)]).exposureWarns = 1 := by
  decide +kernel

/-- The end of a drain writes the order of position 2 CLOSED with reason DRAINED and resets the panels. -/
theorem test_end_of_a_drain :
    let s := drainTest (placed 2 (position .full) (inState .draining))
    (s.bus.posted.filter (fun w => w.addr == s.orderAddr 3 || w.addr == s.orderAddr 3 + 0x20)).map (fun w => w.data.getD 0 0)
      = [5, 3]
    ∧ (s.bench 3).link.sending = some (.panelReset .staffed 7) ∧ s.pau.runState = .stopped := by decide +kernel

theorem test_pick_of_the_last_units_completes_the_line :
    let s := after (.pick 0 0 15 4) presenting
    (s.headCard 0).map (fun e => e.1.state) = some .ended ∧ (s.headCard 0).bind (fun e => e.2.result) = some .pickedFull
    ∧ (s.headCard 0).map (fun e => e.2.lines.map (fun l => (l.picked, l.remaining, l.result))) = some [(4, 0, some .complete)]
    ∧ (s.position 15).unitsPut = 4 ∧ (s.position 15).linesCompleted = 1 := by decide +kernel

theorem test_accepted_settings_start_the_part :
    (match exec (.settingsReadReturn 0 (planBytes ++ waysBytes)) (asked .settings (inState .starting)) with
      | .next s => (s.pau.runState, s.pau.errorCode, s.bus.reads.map (fun r => (r.addr, r.len)))
      | _ => (.stopped, 99, []))
    = (.running, 0, [(0x100, 2), (0x102, 2), (0x104, 2), (0x106, 2)]) := by decide +kernel

/-- Settings that leave bench 0 not enabled. -/
def closingBytes : List Byte := planBytes.set 0x31 14

/-- A bench left not enabled is CLOSED by the start, which raises RUN_STATE alone; bench 1 keeps its picker. -/
theorem test_start_closes_an_unenabled_bench_without_event :
    (match exec (.settingsReadReturn 0 (closingBytes ++ waysBytes)) (asked .settings (inState .starting)) with
      | .next s => (s.pau.runState, (s.bench 0).staffing, (s.bench 0).picker, (s.bench 1).staffing, (s.bench 1).picker, s.ntu.events)
      | _ => (.stopped, .staffed, 0, .closed, 0, 0))
    = (.running, .closed, 0, .staffed, 7, Event.runState.bits) := by decide +kernel

end Sys2Proof.Tests
end

section
/-! SUPPORT. The capacities (O57): what each operation of the part keeps of `State.bounded`. An operation that touches none of
AREA_LO, the lookups, the links' queues and the grant count keeps it by definition and has no lemma here. -/

namespace Sys2Proof.Machine

variable {s : State}

/-! ### The updates that touch a bounded part -/

theorem bounded_setPau {p : Pau} (hp : p.areaLo = s.pau.areaLo) (h : s.bounded) : (setPau p s).bounded := by
  obtain ⟨area, rest⟩ := h
  exact ⟨by simpa [State.areaAligned, hp] using area, rest⟩

theorem bounded_setTtu {t : Ttu} (hc : t.cache.length ≤ Config.cacheEntries) (hm : t.misses.length ≤ Config.missEntries)
    (h : s.bounded) : (setTtu t s).bounded := by
  obtain ⟨area, -, rest⟩ := h
  exact ⟨area, ⟨hc, hm⟩, rest⟩

theorem bounded_setMga {m : Mga} (hm : m.portCount ≤ 255) (h : s.bounded) : (setMga m s).bounded := by
  obtain ⟨area, lookups, queues, -⟩ := h
  exact ⟨area, lookups, queues, hm⟩

theorem bounded_setGridLink {l : Link GridMsg} (hl : l.queue.length ≤ Config.gridQueue) (h : s.bounded) :
    (setGridLink l s).bounded := by
  obtain ⟨area, lookups, ⟨-, benches⟩, count⟩ := h
  exact ⟨area, lookups, ⟨hl, benches⟩, count⟩

theorem bounded_setBench {b : Bench} {c : Blc} (hc : c.link.queue.length ≤ Config.benchQueue) (h : s.bounded) :
    (setBench b c s).bounded := by
  obtain ⟨area, lookups, ⟨grid, benches⟩, count⟩ := h
  refine ⟨area, lookups, ⟨grid, fun d => ?_⟩, count⟩
  by_cases hd : b = d
  · subst hd; simpa using hc
  · simpa [setBench_bench_ne hd] using benches d

theorem bounded_setBenchLink {b : Bench} {l : Link BenchMsg} (hl : l.queue.length ≤ Config.benchQueue) (h : s.bounded) :
    (setBenchLink b l s).bounded := bounded_setBench hl h

theorem bounded_cache (h : s.bounded) : s.ttu.cache.length ≤ Config.cacheEntries := by
  obtain ⟨-, ⟨cache, -⟩, -⟩ := h
  exact cache

theorem bounded_misses (h : s.bounded) : s.ttu.misses.length ≤ Config.missEntries := by
  obtain ⟨-, ⟨-, misses⟩, -⟩ := h
  exact misses

theorem bounded_gridQueue (h : s.bounded) : s.glc.link.queue.length ≤ Config.gridQueue := by
  obtain ⟨-, -, ⟨grid, -⟩, -⟩ := h
  exact grid

theorem bounded_benchQueue (b : Bench) (h : s.bounded) : (s.bench b).link.queue.length ≤ Config.benchQueue := by
  obtain ⟨-, -, ⟨-, benches⟩, -⟩ := h
  exact benches b

theorem bounded_portCount (h : s.bounded) : s.mga.portCount ≤ 255 := by
  obtain ⟨-, -, -, count⟩ := h
  exact count

theorem bounded_foldl {α : Type} {f : State → α → State} (hf : ∀ t a, t.bounded → (f t a).bounded) (l : List α) :
    ∀ {s : State}, s.bounded → (l.foldl f s).bounded := by
  induction l with
  | nil => exact fun h => h
  | cons a l ih => exact fun h => ih (hf _ a h)

theorem bounded_ite (c : Prop) [Decidable c] {t u : State} (ht : t.bounded) (hu : u.bounded) :
    (if c then t else u).bounded := by
  split
  · exact ht
  · exact hu

theorem bounded_post (addr : Nat) (data : List Byte) (h : s.bounded) : (post addr data s).bounded := h

/-! ### Notices -/

theorem bounded_findSignals (quiet : Bool) (h : s.bounded) : (findSignals quiet s).bounded := by
  obtain ⟨g, w, e⟩ := findSignals_changes quiet s
  rw [e]; exact h

theorem bounded_raise (e : Event) (h : s.bounded) : (raise e s).bounded := bounded_findSignals _ h

theorem bounded_report (r : Report) (h : s.bounded) : (report r s).bounded := by
  obtain ⟨ev, g, c, w, n, e⟩ := report_changes r s
  rw [e]; exact h

/-! ### Links -/

theorem bounded_gridHand (m : GridMsg) (h : s.bounded) : (gridHand m s).bounded := by
  simp only [gridHand]
  split
  · split
    · exact bounded_setGridLink (by simpa [replaceHold] using bounded_gridQueue h) h
    · split
      · exact h
      next room => exact bounded_setGridLink (Link.enqueue_length m _ (bounded_gridQueue h) (by simpa using room)) h
  · exact h

theorem bounded_benchHand (b : Bench) (m : BenchMsg) (h : s.bounded) : (benchHand b m s).bounded := by
  simp only [benchHand]
  split
  · split
    · exact h
    next room =>
      exact bounded_setBenchLink (Link.enqueue_length m _ (bounded_benchQueue b h) (by simpa using room)) h
  · exact h

theorem bounded_setAwaited (b : Bench) (a : Option Awaited) (h : s.bounded) : (setAwaited b a s).bounded :=
  bounded_setBench (bounded_benchQueue b h) h

theorem bounded_answer (b : Bench) (r : Reason) (h : s.bounded) : (answer b r s).bounded := by
  unfold answer
  split
  · exact h
  · exact bounded_setAwaited b none (bounded_benchHand b _ h)

theorem bounded_answerPlace (q : PutPos) (r : Reason) (h : s.bounded) : (answerPlace q r s).bounded := by
  unfold answerPlace
  split
  · exact h
  · split
    · exact bounded_answer _ r h
    · exact h

theorem bounded_panelReset (b : Bench) (h : s.bounded) : (panelReset b s).bounded := by
  simp only [panelReset]
  split
  · exact bounded_setAwaited b none (bounded_benchHand b _ h)
  · exact h

theorem bounded_panelResets (h : s.bounded) : (panelResets s).bounded :=
  bounded_foldl (fun _ b => bounded_panelReset b) _ h

theorem bounded_portCue (p : Port) (c : Cue) (h : s.bounded) : (portCue p c s).bounded :=
  bounded_foldl (fun _ b => bounded_benchHand b _) _ h

theorem bounded_showLine (p : Port) (l : Line) (h : s.bounded) : (showLine p l s).bounded := by
  unfold showLine
  split
  · split
    · exact bounded_benchHand _ _ h
    · exact h
  · exact h

theorem bounded_unshowLine (p : Port) (l : Line) (h : s.bounded) : (unshowLine p l s).bounded := by
  unfold unshowLine
  split
  · split
    · exact bounded_benchHand _ _ h
    · exact h
  · exact h

theorem bounded_unshowLines (p : Port) (ls : List Line) (h : s.bounded) :
    (ls.foldl (fun t l => unshowLine p l t) s).bounded := bounded_foldl (fun _ l => bounded_unshowLine p l) ls h

/-! ### The Status Block and the DONE write -/

theorem bounded_writeStatus (h : s.bounded) : (writeStatus s).bounded := by
  unfold writeStatus
  split <;> exact h

theorem bounded_setRunState (r : RunState) (h : s.bounded) : (setRunState r s).bounded :=
  bounded_raise _ (bounded_writeStatus (s := { s with pau := { s.pau with runState := r } }) h)

theorem bounded_writeDone (card : Nat) (part : CardPart) (h : s.bounded) : (writeDone card part s).bounded :=
  bounded_raise .cardDone (bounded_post _ _ (bounded_post _ _ h))

theorem bounded_returnCard (c : CardCtx) (h : s.bounded) : (returnCard c s).bounded := by
  unfold returnCard
  split
  · exact h
  · exact bounded_writeDone _ _ h

theorem bounded_finishStaged (r : CardResult) (lr : LineResult) (c : CardCtx) (h : s.bounded) :
    (finishStaged r lr c s).bounded := bounded_returnCard _ h

/-! ### Lane heads -/

theorem bounded_resolveHead (p : Port) (sel : Line → Bool) (r : LineResult) (h : s.bounded) :
    (resolveHead p sel r s).bounded := by
  unfold resolveHead
  split
  · exact h
  · exact bounded_unshowLines p _ h

theorem bounded_countLinesCut (ls : List Line) (h : s.bounded) : (countLinesCut ls s).bounded := by
  refine bounded_foldl (fun t l ht => ?_) ls h
  split <;> exact ht

theorem bounded_endHead (p : Port) (un : CardResult) (byRecall : Bool) (h : s.bounded) :
    (endHead p un byRecall s).bounded := by
  unfold endHead
  split
  · exact h
  · split
    · exact h
    · split <;> exact h

theorem bounded_endWith (p : Port) (un : CardResult) (lr : LineResult) (byRecall : Bool) (h : s.bounded) :
    (endWith p un lr byRecall s).bounded := bounded_endHead p un byRecall (bounded_resolveHead p _ lr h)

theorem bounded_settleEntry (p : Port) (h : s.bounded) : (settleEntry p s).bounded := by
  unfold settleEntry
  split
  · exact h
  · split
    · exact bounded_endHead p _ _ h
    · split <;> exact h

theorem bounded_questionHead (p : Port) (sel : Line → Bool) (h : s.bounded) : (questionHead p sel s).bounded := by
  unfold questionHead
  split
  · exact h
  · refine bounded_foldl (fun t l ht => ?_) _ h
    unfold questionEffect
    split
    · exact bounded_countLinesCut _ ht
    · exact bounded_showLine p l ht

theorem bounded_presentFirst (p : Port) (h : s.bounded) : (presentFirst p s).bounded := by
  unfold presentFirst
  split
  · exact h
  · exact bounded_settleEntry p (bounded_questionHead p _ h)

theorem bounded_dockHead (p : Port) (h : s.bounded) : (dockHead p s).bounded := by
  unfold dockHead
  split
  · exact bounded_endHead p _ _ h
  · split
    · exact bounded_endWith p _ _ _ h
    · split
      · exact bounded_endWith p _ _ _ h
      · split
        · exact bounded_endWith p _ _ _ h
        · split
          · exact bounded_presentFirst p h
          · exact h

theorem bounded_darkenHead (b : Bench) (p : Port) (h : s.bounded) : (darkenHead b p s).bounded := by
  simp only [darkenHead]
  split
  · exact h
  · split
    · exact bounded_settleEntry p (bounded_unshowLines p _ h)
    · exact h

theorem bounded_relightHead (b : Bench) (p : Port) (h : s.bounded) : (relightHead b p s).bounded := by
  unfold relightHead
  split
  · exact h
  · split
    · split
      · exact bounded_settleEntry p (bounded_questionHead p _ h)
      · exact h
    · split
      · exact bounded_presentFirst p h
      · exact h

theorem bounded_closeHead (b : Bench) (p : Port) (h : s.bounded) : (closeHead b p s).bounded := by
  unfold closeHead
  split
  · exact h
  · split
    · exact bounded_settleEntry p (bounded_countLinesCut _ (bounded_resolveHead p _ _ h))
    · split
      · exact bounded_endWith p _ _ _ h
      · exact h

theorem bounded_recallHead (card : Nat) (seq : Word) (p : Port) (h : s.bounded) : (recallHead card seq p s).bounded := by
  unfold recallHead
  split
  · exact h
  · split
    · split
      · exact bounded_endWith p _ _ _ h
      · exact bounded_endWith p _ _ _ h
      · exact h
      · exact h
    · exact h

theorem bounded_withdrawHead (card : Nat) (seq : Word) (p : Port) (h : s.bounded) :
    (withdrawHead card seq p s).bounded := by
  unfold withdrawHead
  split
  · exact h
  · split
    · exact bounded_endWith p _ _ _ h
    · exact h

theorem bounded_recallTaking (card : Nat) (seq : Word) (h : s.bounded) : (recallTaking card seq s).bounded :=
  bounded_foldl (fun _ p => bounded_recallHead card seq p) _ h

theorem bounded_withdrawAcceptance (j : Nat) (lr : LineResult) (h : s.bounded) :
    (withdrawAcceptance j lr s).bounded := by
  refine bounded_foldl (fun t p ht => ?_) _ h
  simp only [withdrawAcceptanceAt]
  split
  · exact ht
  · split
    · exact ht
    · exact bounded_settleEntry p (bounded_countLinesCut _ (bounded_resolveHead p _ _ ht))

/-! ### Dispatch holds -/

theorem bounded_sendHold (p : Port) (h : s.bounded) : (sendHold p s).bounded :=
  show (setHold p _ (gridHand _ s)).bounded from bounded_gridHand _ h

theorem bounded_actOnWant (p : Port) (old new : Bool) (h : s.bounded) : (actOnWant p old new s).bounded := by
  unfold actOnWant
  split
  · exact h
  · split
    · exact bounded_sendHold p h
    · split
      · unfold resumeDispatch
        split
        · exact h
        · exact bounded_gridHand _ h
      · exact h

theorem bounded_refreshHolds (h : s.bounded) : (refreshHolds s).bounded :=
  bounded_foldl (fun t p ht => show (refreshHold p t).bounded from bounded_actOnWant p _ _ ht) _ h

theorem bounded_resumeHolds (h : s.bounded) : (resumeHolds s).bounded := by
  refine bounded_foldl (fun t p ht => ?_) _ h
  split
  · exact bounded_sendHold p ht
  · exact ht

/-! ### The merge -/

theorem bounded_count (f : Counters → Counters) (h : s.bounded) : (count f s).bounded := h

theorem bounded_releaseHead (p : Port) (h : s.bounded) : (releaseHead p s).bounded := by
  unfold releaseHead
  split <;> exact h

/-- R144, R147: a grant counts the port grants up to 255, or from 0 again. -/
theorem bounded_grant (r : Requester) (h : s.bounded) : (grant r s).bounded := by
  cases r with
  | port p =>
    simp only [grant, grantPort]
    split
    · exact h
    · exact bounded_portCue p _ (bounded_gridHand _ (bounded_releaseHead p (bounded_count _
        (bounded_setMga (Nat.min_le_right _ _) h))))
  | recirc => exact bounded_gridHand _ (bounded_count _ (bounded_setMga (Nat.zero_le 255) h))

theorem bounded_openMerge (r : Requester) (h : s.bounded) : (openMerge r s).bounded := h

theorem bounded_mergeStep (h : s.bounded) : (mergeStep s).bounded := by
  unfold mergeStep
  split
  · split
    · exact bounded_grant _ h
    · split
      · exact h
      · split
        · exact bounded_grant _ h
        · exact h
    · exact h
  · exact h

theorem bounded_withdrawTarget (r : Requester) (h : s.bounded) : (withdrawTarget r s).bounded := by
  unfold withdrawTarget
  split
  · exact h
  · split <;> exact h
  · exact h

theorem bounded_endTenure (r : Requester) (h : s.bounded) : (endTenure r s).bounded := by
  unfold endTenure
  split <;> exact h

/-! ### Exposure records -/

theorem bounded_countForTaking (card : Nat) (seq : Word) (f : BenchCounters → BenchCounters) (h : s.bounded) :
    (countForTaking card seq f s).bounded := by
  unfold countForTaking
  split <;> exact h

theorem bounded_warnRecord (card : Nat) (seq : Word) (h : s.bounded) : (warnRecord card seq s).bounded := by
  unfold warnRecord
  split
  · exact h
  · split
    · exact bounded_countForTaking _ _ _ (bounded_raise _ (bounded_portCue _ _ h))
    · exact h

theorem bounded_markOverdue (r : Exposure) (h : s.bounded) : (markOverdue r s).bounded := by
  simp only [markOverdue]
  split
  · exact h
  · split
    · exact h
    · exact bounded_report _ h

theorem bounded_recallRecord (card : Nat) (seq : Word) (h : s.bounded) : (recallRecord card seq s).bounded := by
  unfold recallRecord
  split
  · exact h
  · split
    · exact bounded_markOverdue _ (bounded_countForTaking _ _ _ (bounded_raise _ (bounded_recallTaking _ _ h)))
    · exact h

theorem bounded_compareRecord (card : Nat) (seq : Word) (h : s.bounded) : (compareRecord card seq s).bounded :=
  bounded_recallRecord _ _ (bounded_warnRecord _ _ h)

theorem bounded_startExposure (c : CardCtx) (p : Port) (h : s.bounded) : (startExposure c p s).bounded := by
  unfold startExposure
  split
  · exact bounded_compareRecord _ _ h
  · exact h

/-! ### Calls -/

theorem bounded_makeCall (c : CardCtx) (p : Port) (h : s.bounded) : (makeCall c p s).bounded := by
  simp only [makeCall, recordLend]
  split
  · split <;> exact bounded_gridHand _ h
  · exact bounded_gridHand _ h

theorem bounded_endCall (c : Call) (r : CardResult) (lr : LineResult) (h : s.bounded) : (endCall c r lr s).bounded :=
  bounded_returnCard _ h

theorem bounded_failCall (c : Call) (h : s.bounded) : (failCall c s).bounded := bounded_endCall c _ _ h

theorem bounded_loseCall (c : Call) (h : s.bounded) : (loseCall c s).bounded := bounded_report _ (bounded_endCall c _ _ h)

theorem bounded_confirmCancel (c : Call) (h : s.bounded) : (confirmCancel c s).bounded := by
  unfold confirmCancel
  split
  · exact bounded_endCall c _ _ h
  · split <;> exact bounded_endCall c _ _ h

theorem bounded_cancelCall (why : CancelReason) (c : Call) (h : s.bounded) : (cancelCall why c s).bounded := by
  unfold cancelCall
  split
  · exact bounded_gridHand _ h
  · exact h

theorem bounded_cancelCalls (why : CancelReason) (sel : Call → Bool) (h : s.bounded) :
    (cancelCalls why sel s).bounded := bounded_foldl (fun _ c => bounded_cancelCall why c) _ h

theorem bounded_cancelIfDue (n : Nat) (h : s.bounded) : (cancelIfDue n s).bounded := by
  unfold cancelIfDue
  split
  · exact h
  · split
    · exact bounded_cancelCall _ _ h
    · split
      · exact bounded_cancelCall _ _ h
      · exact h

theorem bounded_busyRefusal (c : Call) (h : s.bounded) : (busyRefusal c s).bounded := by
  simp only [busyRefusal]
  split
  · exact bounded_cancelIfDue _ h
  · split
    · exact bounded_report _ (bounded_failCall c h)
    · refine bounded_cancelIfDue _ ?_
      split
      · exact h
      · exact bounded_report _ h

theorem bounded_seeDispatch (c : Call) (h : s.bounded) : (seeDispatch c s).bounded := by
  simp only [seeDispatch]
  split
  · exact h
  · exact bounded_startExposure _ _ h

theorem bounded_inquiryExpiry (c : Call) (h : s.bounded) : (inquiryExpiry c s).bounded := by
  unfold inquiryExpiry
  split
  · exact bounded_gridHand _ h
  · exact bounded_loseCall c h

theorem bounded_beginInquiry (c : Call) (h : s.bounded) : (beginInquiry c s).bounded := bounded_gridHand _ h

theorem bounded_inquiryFound (dispatched : Bool) (c : Call) (h : s.bounded) : (inquiryFound dispatched c s).bounded := by
  simp only [inquiryFound]
  split
  · exact bounded_seeDispatch _ h
  · exact bounded_cancelIfDue _ h

theorem bounded_acceptAnswer (c : Call) (h : s.bounded) : (acceptAnswer c s).bounded := by
  unfold acceptAnswer
  split <;> exact h

theorem bounded_refuseAnswer (reason : Nat) (c : Call) (h : s.bounded) : (refuseAnswer reason c s).bounded := by
  unfold refuseAnswer
  split
  · exact bounded_confirmCancel c h
  · split
    · split
      · exact bounded_busyRefusal c h
      · exact bounded_failCall c h
    · exact h

theorem bounded_dispatchedAnswer (c : Call) (h : s.bounded) : (dispatchedAnswer c s).bounded := by
  unfold dispatchedAnswer
  split
  · exact bounded_seeDispatch _ h
  · split
    · exact bounded_seeDispatch _ h
    · exact bounded_seeDispatch _ h
    · exact bounded_seeDispatch _ h
    · exact h

theorem bounded_statusAnswer (status : Nat) (c : Call) (h : s.bounded) : (statusAnswer status c s).bounded := by
  unfold statusAnswer
  split
  · split
    · exact bounded_gridHand _ h
    · split
      · exact bounded_seeDispatch _ h
      · exact bounded_confirmCancel c h
  · split
    · split
      · exact bounded_inquiryFound _ c h
      · split
        · exact bounded_inquiryFound _ c h
        · exact bounded_failCall c h
    · exact h

theorem bounded_transitExpiry (c : Call) (h : s.bounded) : (transitExpiry c s).bounded := by
  simp only [transitExpiry]
  split
  · exact bounded_loseCall c h
  · split
    · exact bounded_beginInquiry _ h
    · exact bounded_beginInquiry _ h
    · exact bounded_beginInquiry _ h
    · exact h

/-! ### The Call Selector and the takes -/

theorem bounded_chooseOnce {t : State} (e : chooseOnce s = some t) (h : s.bounded) : t.bounded := by
  unfold chooseOnce at e
  split at e
  · exact absurd e (by simp)
  · cases e; exact bounded_makeCall _ _ h
  · cases e; exact bounded_makeCall _ _ h

theorem bounded_callLoop (fuel : Nat) : ∀ {s : State}, s.bounded → (callLoop fuel s).bounded := by
  induction fuel with
  | zero => exact fun h => h
  | succ n ih =>
    intro s h
    unfold callLoop
    split
    · exact h
    next t e => exact ih (bounded_chooseOnce e h)

theorem bounded_selectCalls (h : s.bounded) : (selectCalls s).bounded := bounded_callLoop _ h

theorem bounded_beginTakes (h : s.bounded) : (beginTakes s).bounded := by
  refine bounded_foldl (fun t b ht => ?_) _ h
  unfold beginTake
  split <;> exact ht

/-! ### The put wall -/

theorem bounded_failBinding (q : PutPos) (r : Reason) (h : s.bounded) : (failBinding q r s).bounded :=
  bounded_answerPlace q r h

theorem bounded_bindingAnswered (q : PutPos) (a : LookupAnswer) (h : s.bounded) : (bindingAnswered q a s).bounded := by
  simp only [bindingAnswered]
  split
  · exact h
  · split
    · split
      · exact bounded_failBinding q _ h
      · split
        · exact bounded_failBinding q _ h
        · exact h
      · exact bounded_failBinding q _ h
    · exact h

theorem bounded_bindOrder (q : PutPos) (j : Nat) (o : OrderBytes) (h : s.bounded) : (bindOrder q j o s).bounded := by
  simp only [bindOrder]
  split
  · exact bounded_raise _ (bounded_answerPlace q _ h)
  · exact bounded_answerPlace q _ h

theorem bounded_orderRecordReturned (q : PutPos) (j : Nat) (data : List Byte) (h : s.bounded) :
    (orderRecordReturned q j data s).bounded := by
  simp only [orderRecordReturned]
  split
  · exact h
  · split
    · split
      · exact bounded_failBinding q _ h
      · split
        · exact bounded_report _ (bounded_failBinding q _ h)
        · split
          · exact bounded_failBinding q _ h
          · split
            · exact bounded_failBinding q _ h
            · exact bounded_bindOrder q j _ h
    · exact h

theorem bounded_stopAccepting (q : PutPos) (st : PosState) (h : s.bounded) : (stopAccepting q st s).bounded := by
  simp only [stopAccepting]
  split
  · exact bounded_withdrawAcceptance _ _ h
  · exact h

theorem bounded_closeCue (q : PutPos) (h : s.bounded) : (closeCue q s).bounded := bounded_benchHand _ _ h

theorem bounded_closeOrder (q : PutPos) (reason : CloseReason) (h : s.bounded) : (closeOrder q reason s).bounded := by
  simp only [closeOrder]
  split
  · exact bounded_raise .orderClosed h
  · exact h

theorem bounded_removeAt (q : PutPos) (h : s.bounded) : (removeAt q s).bounded := by
  simp only [removeAt]
  split
  · exact h
  · exact bounded_answerPlace q _ h
  · refine bounded_report _ (bounded_closeOrder q _ ?_)
    split
    · exact bounded_withdrawAcceptance _ _ h
    · exact h
  · exact bounded_closeOrder q _ h
  · exact bounded_closeOrder q _ h
  · exact bounded_closeOrder q _ h

theorem bounded_closeRequested (q : PutPos) (h : s.bounded) : (closeRequested q s).bounded := by
  unfold closeRequested
  split
  · exact bounded_stopAccepting q _ (bounded_closeCue q h)
  · exact h

theorem bounded_reportUnits (j u : Nat) (h : s.bounded) : (reportUnits j u s).bounded := by
  unfold reportUnits
  split <;> exact h

theorem bounded_reportLine (j : Nat) (h : s.bounded) : (reportLine j s).bounded := by
  simp only [reportLine]
  split
  · exact h
  · split
    · exact bounded_stopAccepting _ _ (bounded_closeCue _ h)
    · exact h

theorem bounded_findLate (q : PutPos) (h : s.bounded) : (findLate q s).bounded := by
  unfold findLate
  split
  · exact bounded_raise .lateOrder h
  · exact h

theorem bounded_cancelBindings (h : s.bounded) : (cancelBindings s).bounded := by
  refine bounded_foldl (fun t q ht => ?_) _ h
  unfold cancelBinding
  split
  · exact bounded_failBinding q _ ht
  · exact ht

theorem bounded_closeDrained (h : s.bounded) : (closeDrained s).bounded := by
  refine bounded_foldl (fun t q ht => ?_) _ h
  split
  · exact bounded_closeOrder q _ ht
  · exact ht

/-! ### Tag translation -/

theorem bounded_deliver (asker : Asker) (tag : Word) (a : LookupAnswer) (h : s.bounded) :
    (deliver asker tag a s).bounded := by
  cases asker with
  | place q => exact bounded_bindingAnswered q a h
  | arrival p => exact bounded_report _ h

theorem bounded_startMiss (h : s.bounded) : (startMiss s).bounded := by
  unfold startMiss
  split
  · exact h
  · split <;> exact h

/-- R24: a hit moves an entry of the cache to its front, which makes the cache no longer. -/
theorem touch_length {tag : Word} {e : CacheEntry} (hit : s.cached tag = some e) :
    (touch e s.ttu.cache).length ≤ s.ttu.cache.length := by
  have mem : e ∈ s.ttu.cache := List.mem_of_find?_eq_some hit
  have shorter : (s.ttu.cache.filter (fun f => f.tag != e.tag)).length < s.ttu.cache.length :=
    List.length_filter_lt_length_iff_exists.mpr ⟨e, mem, by simp⟩
  exact Nat.succ_le_of_lt shorter

theorem install_length (tag : Word) (m : Translation) (cache : List CacheEntry) :
    (install tag m cache).length ≤ Config.cacheEntries := by
  simp only [install, Config.cacheEntries, List.length_cons, List.length_take]
  omega

theorem bounded_lookup (tag : Word) (asker : Asker) (h : s.bounded) : (lookup tag asker s).bounded := by
  unfold lookup
  split
  · exact bounded_deliver _ _ _ h
  · split
    · exact bounded_deliver _ _ _ h
    · split
      next e hit =>
        have short := Nat.le_trans (touch_length hit) (bounded_cache h)
        exact bounded_deliver _ _ _ (bounded_setTtu short (bounded_misses h) h)
      · split
        next room =>
          refine bounded_startMiss (bounded_setTtu (bounded_cache h) ?_ h)
          rw [List.length_append]
          exact Nat.succ_le_of_lt room
        · exact bounded_deliver _ _ _ h

theorem bounded_translationReturned (m : MissRead) (entry : Word) (h : s.bounded) :
    (translationReturned m entry s).bounded := by
  simp only [translationReturned]
  refine bounded_startMiss (bounded_foldl (fun t l ht => bounded_deliver _ _ _ ht) _ (bounded_setTtu ?_ ?_ h))
  · split
    · exact bounded_cache h
    · exact install_length _ _ _
  · exact Nat.le_trans (List.length_filter_le _ _) (bounded_misses h)

theorem bounded_flush (h : s.bounded) : (flush s).bounded := by
  unfold flush
  split
  · exact bounded_setTtu (Nat.zero_le _) (bounded_misses h) h
  · exact bounded_setTtu (Nat.zero_le _) (by simpa using bounded_misses h) h

theorem bounded_emptyMisses (h : s.bounded) : (emptyMisses s).bounded :=
  bounded_setTtu (bounded_cache h) (Nat.zero_le _) h

/-! ### Changes of run state -/

theorem bounded_clearGridQueue (h : s.bounded) : (clearGridQueue s).bounded := bounded_setGridLink (Nat.zero_le _) h

theorem bounded_enterFaulted (h : s.bounded) : (enterFaulted s).bounded := by
  refine bounded_setRunState .faulted (bounded_panelResets (bounded_clearGridQueue (bounded_cancelBindings ?_)))
  exact bounded_emptyMisses (s := discardReads (abandonSweep (setPau { s.pau with drainDue := false } s))) h

theorem bounded_enterDraining (h : s.bounded) : (enterDraining s).bounded := by
  refine bounded_setRunState .draining (bounded_cancelCalls _ _ ?_)
  exact bounded_foldl (fun t b ht => bounded_foldl (fun u c hu => bounded_finishStaged _ _ c hu) _ ht) _ h

theorem bounded_clearTakeMarks (h : s.bounded) : (clearTakeMarks s).bounded := h

theorem bounded_lapseHolds (h : s.bounded) : (lapseHolds s).bounded := h

theorem bounded_endDrain (h : s.bounded) : (endDrain s).bounded := by
  have stop : ∀ c : State, c.bounded →
      (setRunState .stopped (setMga c.mga.drained (clearTakeMarks (emptyMisses c)))).bounded := fun c hc =>
    bounded_setRunState .stopped (bounded_setMga (m := c.mga.drained) (bounded_portCount hc)
      (bounded_clearTakeMarks (bounded_emptyMisses hc)))
  have given : (discardReads (abandonSweep s)).bounded := h
  have closed := bounded_panelResets (bounded_closeDrained (bounded_cancelBindings given))
  exact stop _ (bounded_lapseHolds (bounded_clearGridQueue closed))

theorem bounded_drainTest (h : s.bounded) : (drainTest s).bounded := by
  unfold drainTest
  split
  · exact bounded_endDrain h
  · exact h

theorem bounded_settle (h : s.bounded) : (settle s).bounded := by
  unfold settle
  split
  · exact bounded_drainTest (bounded_beginTakes (bounded_selectCalls (bounded_mergeStep (bounded_refreshHolds h))))
  · exact h

end Sys2Proof.Machine
end

section
/-! SUPPORT. The capacities (O57), continued: Clear and resets, sweeps, reads, the messages of both kinds of link, time, and
every command. -/

namespace Sys2Proof.Machine

variable {s : State}

/-! ### Clear, resets and STARTING -/

/-- Every Bench Link Controller changed by one function that lengthens no queue. -/
theorem benchQueues_map {f : Blc → Blc} (hf : ∀ c : Blc, (f c).link.queue.length ≤ c.link.queue.length)
    (h : s.bounded) (b : Bench) : (s.blc.map f)[b].link.queue.length ≤ Config.benchQueue := by
  have mapped : (s.blc.map f)[b] = f (s.bench b) := by simp [State.bench]
  rw [mapped]
  exact Nat.le_trans (hf _) (bounded_benchQueue b h)

theorem bounded_clearBlocks (h : s.bounded) : (clearBlocks s).bounded := by
  have ⟨area, _⟩ := h
  exact ⟨area, ⟨Nat.zero_le _, Nat.zero_le _⟩, ⟨Nat.zero_le _, benchQueues_map (fun _ => Nat.zero_le _) h⟩, Nat.zero_le _⟩

theorem bounded_clearEvents (h : s.bounded) : (clearEvents s).bounded := bounded_findSignals false h

theorem bounded_clearAll (h : s.bounded) : (clearAll s).bounded := by
  have cleared := bounded_writeStatus (bounded_clearBlocks h)
  exact bounded_clearEvents (bounded_panelResets (bounded_ite _ cleared (bounded_raise .runState cleared)))

theorem resetAll_bench (cause : ResetCause) (s : State) (b : Bench) : (resetAll cause s).bench b = Blc.initial := by
  simp [resetAll, State.reset, State.bench]

theorem bounded_resetAll (cause : ResetCause) (s : State) : (resetAll cause s).bounded := by
  refine ⟨BitVec.zero_and, ⟨Nat.zero_le _, Nat.zero_le _⟩, ⟨Nat.zero_le _, fun b => ?_⟩, Nat.zero_le _⟩
  rw [resetAll_bench]
  exact Nat.zero_le _

theorem bounded_beginStarting (h : s.bounded) : (beginStarting s).bounded :=
  show (issueRead _ _ _ (setRunState .starting _)).bounded from bounded_setRunState .starting h

theorem bounded_takeSettings (st : Structural) (l : Live) (h : s.bounded) : (takeSettings st l s).bounded :=
  bounded_findSignals _ h

theorem bounded_startBlocks (h : s.bounded) : (startBlocks s).bounded := by
  have ⟨area, _⟩ := h
  exact ⟨area, ⟨Nat.zero_le _, Nat.zero_le _⟩, ⟨bounded_gridQueue (s := s) h, benchQueues_map (fun _ => Nat.le_refl _) h⟩,
    Nat.zero_le _⟩

theorem bounded_closeUnenabled (b : Bench) (h : s.bounded) : (closeUnenabled b s).bounded := by
  unfold closeUnenabled
  split
  · exact h
  · exact bounded_setBench (bounded_benchQueue b h) h

theorem bounded_enterRunning (h : s.bounded) : (enterRunning s).bounded :=
  bounded_settle (bounded_setPau rfl (bounded_setRunState .running h))

theorem bounded_startAccepted (st : Structural) (l : Live) (h : s.bounded) : (startAccepted st l s).bounded := by
  have closed : (allBenches.foldl (fun u b => closeUnenabled b u) (startBlocks (takeSettings st l s))).bounded :=
    bounded_foldl (fun _ b => bounded_closeUnenabled b) _ (bounded_startBlocks (bounded_takeSettings st l h))
  have running := bounded_enterRunning (bounded_setPau (p := { State.pau _ with drainDue := false }) rfl closed)
  simp only [startAccepted]
  split
  · exact bounded_settle (bounded_enterDraining running)
  · exact running

/-! ### Staffing -/

theorem bounded_headsOf (b : Bench) {f : Port → State → State} (hf : ∀ p t, t.bounded → (f p t).bounded)
    (h : s.bounded) : (headsOf b f s).bounded := bounded_foldl (fun t p => hf p t) _ h

theorem bounded_staffingActs (b : Bench) (new : Staffing) (h : s.bounded) : (staffingActs b new s).bounded := by
  simp only [staffingActs]
  split
  · exact h
  · split
    · exact bounded_headsOf b (fun p _ => bounded_darkenHead b p) h
    · exact bounded_headsOf b (fun p _ => bounded_relightHead b p) h
    · exact bounded_cancelCalls _ _ (bounded_headsOf b (fun p _ => bounded_closeHead b p) h)

theorem bounded_changeStaffing (b : Bench) (new : Staffing) (picker : Half) (h : s.bounded) :
    (changeStaffing b new picker s).bounded :=
  bounded_raise _ (bounded_staffingActs b new (bounded_setBench (bounded_benchQueue b h) h))

/-! ### Sweeps -/

theorem bounded_endSweep (h : s.bounded) : (endSweep s).bounded := by
  simp only [endSweep]
  split <;> exact h

theorem bounded_stage6 (h : s.bounded) : (stage6 s).bounded := by
  have written := bounded_writeStatus h
  unfold stage6
  split
  · exact bounded_endSweep (bounded_raise _ (bounded_setPau rfl written))
  · exact bounded_endSweep written

theorem bounded_readOrderFlags (q : PutPos) (h : s.bounded) : (readOrderFlags q s).bounded := by
  unfold readOrderFlags
  split
  · split <;> exact h
  · exact h

theorem bounded_enterStage (g : SweepStage) (h : s.bounded) : (enterStage g s).bounded := h

theorem bounded_stage5 (h : s.bounded) : (stage5 s).bounded := by
  have read := bounded_foldl (fun _ q => bounded_readOrderFlags q) allPositions h
  simp only [stage5]
  split
  · exact bounded_enterStage _ read
  · exact bounded_stage6 read

theorem bounded_stage4 (h : s.bounded) : (stage4 s).bounded := by
  have read := bounded_foldl (f := fun u c => issueRead (.cardFlags c.card c.seq) (u.cardAddr c.card + 0x01) 1 u)
    (fun _ _ ht => ht) s.held h
  simp only [stage4]
  split
  · exact bounded_enterStage _ read
  · exact bounded_stage5 read

theorem bounded_readStarved (b : Bench) (h : s.bounded) : (readStarved b s).bounded := by
  simp only [readStarved]
  split
  · split <;> exact h
  · exact h

theorem bounded_stage3 (h : s.bounded) : (stage3 s).bounded := by
  have read := bounded_ite (s.pau.runState = .running) (bounded_foldl (fun _ b => bounded_readStarved b) allBenches h) h
  exact bounded_ite _ (bounded_enterStage _ read) (bounded_stage4 read)

theorem bounded_advanceSweep (h : s.bounded) : (advanceSweep s).bounded := by
  unfold advanceSweep
  split
  · exact h
  · split
    · exact h
    · split
      · exact bounded_stage3 (bounded_flush h)
      · exact bounded_stage3 (bounded_flush h)
      · exact bounded_stage4 h
      · exact bounded_stage5 h
      · exact bounded_stage6 h

theorem bounded_liveReturned (l : Live) (h : s.bounded) : (liveReturned l s).bounded := by
  unfold liveReturned
  split
  · exact bounded_findSignals true (bounded_setPau rfl h)
  · exact bounded_report _ (bounded_raise _ (bounded_setPau rfl h))

/-! ### The steps of a take -/

theorem bounded_starve (b : Bench) (h : s.bounded) : (starve b s).bounded := h

theorem bounded_indexCheck (b : Bench) (i : Nat) (h : s.bounded) : (indexCheck b i s).bounded := by
  unfold indexCheck
  split
  · exact h
  · exact bounded_starve b (bounded_report _ h)

theorem bounded_linkReturned (b : Bench) (value : Half) (h : s.bounded) : (linkReturned b value s).bounded := by
  unfold linkReturned
  split
  · split
    · exact h
    · exact bounded_indexCheck b _ h
  · exact h

theorem bounded_starvedReturned (b : Bench) (atAnchor : Bool) (cursor : Option Nat) (value : Half) (h : s.bounded) :
    (starvedReturned b atAnchor cursor value s).bounded :=
  bounded_ite _ (bounded_indexCheck b _ h) h

theorem bounded_finishAtTake (card : Nat) (k : CardBytes) (r : CardResult) (lr : LineResult) (h : s.bounded) :
    (finishAtTake card k r lr s).bounded := bounded_writeDone card _ h

theorem bounded_checkCard (card : Nat) (b : Bench) (k : CardBytes) (h : s.bounded) : (checkCard card b k s).bounded := by
  unfold checkCard
  split
  · exact bounded_report _ (bounded_finishAtTake card k _ _ h)
  · split
    · exact bounded_report _ (bounded_finishAtTake card k _ _ h)
    · split
      · exact bounded_finishAtTake card k _ _ h
      · split
        · exact bounded_finishAtTake card k _ _ h
        · split <;> exact h

theorem bounded_cardReturned (b : Bench) (card : Nat) (data : List Byte) (h : s.bounded) :
    (cardReturned b card data s).bounded := by
  simp only [cardReturned]
  split
  · split
    · exact h
    · exact bounded_checkCard card b _ h
  · exact h

/-! ### Withdrawal and bus errors -/

theorem bounded_withdrawTaking (card : Nat) (seq : Word) (h : s.bounded) : (withdrawTaking card seq s).bounded := by
  simp only [withdrawTaking]
  split
  · exact h
  · split
    · exact h
    · split
      · exact bounded_finishStaged _ _ _ h
      · exact bounded_foldl (fun _ p => bounded_withdrawHead card seq p) _ (bounded_cancelCalls _ _ h)

theorem bounded_cardFlagsReturned (card : Nat) (seq : Word) (flags : Byte) (h : s.bounded) :
    (cardFlagsReturned card seq flags s).bounded := by
  unfold cardFlagsReturned
  split
  · exact bounded_withdrawTaking card seq h
  · exact h

theorem bounded_orderFlagsReturned (q : PutPos) (held : Bool) (flags : Byte) (h : s.bounded) :
    (orderFlagsReturned q held flags s).bounded := by
  unfold orderFlagsReturned
  split
  · exact bounded_closeRequested q h
  · exact h

theorem bounded_startingError (h : s.bounded) : (startingError s).bounded := by
  unfold startingError
  split <;> exact h

theorem bounded_busError (id : Nat) (h : s.bounded) : (busError id s).bounded := by
  simp only [busError]
  split
  · exact h
  · split
    · exact h
    · exact bounded_enterFaulted (bounded_startingError (bounded_report _ h))

theorem bounded_withRead {α : Type} (id : Nat) (kind : ReadFor → Option α) {k : α → State → State}
    (hk : ∀ a t, t.bounded → (k a t).bounded) (h : s.bounded) : (withRead id kind k s).bounded := by
  unfold withRead
  split
  · exact h
  · split
    · exact h
    · split
      · exact h
      · exact hk _ _ h

theorem bounded_settingsReturned (data : List Byte) (h : s.bounded) : (settingsReturned data s).bounded := by
  simp only [settingsReturned]
  split
  · exact bounded_startAccepted _ _ h
  · exact bounded_enterFaulted h

theorem bounded_stampReturned (stamp : Word) (h : s.bounded) : (stampReturned stamp s).bounded := by
  unfold stampReturned
  split <;> exact h

theorem bounded_tagReturned (entry : Word) (h : s.bounded) : (tagReturned entry s).bounded := by
  unfold tagReturned
  split
  · exact bounded_translationReturned _ entry h
  · exact h

/-! ### The Grid Link -/

theorem Link.frameSent_queue_length {M : Type} (check : M) (l : Link M) :
    (l.frameSent check).queue.length ≤ l.queue.length := by
  unfold Link.frameSent
  split
  next m rest e => simp [e]
  · split <;> simp

theorem Link.idleExpiry_queue {M : Type} (check : M) (l : Link M) : (l.idleExpiry check).queue = l.queue := by
  unfold Link.idleExpiry
  split <;> rfl

theorem bounded_inquireAll (h : s.bounded) : (inquireAll s).bounded :=
  bounded_foldl (fun _ c => bounded_beginInquiry c) _ h

theorem bounded_gridLinkUp (h : s.bounded) : (gridLinkUp s).bounded := by
  have up := bounded_raise .gridLink (bounded_setGridLink (l := { s.glc.link with up := true }) (bounded_gridQueue h) h)
  simp only [gridLinkUp]
  split
  · exact bounded_settle (bounded_resumeHolds (bounded_inquireAll up))
  · exact up

theorem bounded_gridLinkDown (h : s.bounded) :
    (raise .gridLink (setGridLink { s.glc.link.clearQueue with up := false } s)).bounded :=
  bounded_raise .gridLink (bounded_setGridLink (Nat.zero_le _) h)

theorem bounded_gridGood (payload : Nat) (h : s.bounded) : (gridGood payload s).bounded := by
  simp only [gridGood]
  split
  · exact h
  · exact bounded_gridLinkUp h

theorem bounded_gridMessageTaken (payload : Nat) {k : State → State} (hk : ∀ t, t.bounded → (k t).bounded)
    (h : s.bounded) : (gridMessageTaken payload k s).bounded := by
  simp only [gridMessageTaken]
  split
  · exact hk _ (bounded_gridGood payload h)
  · exact bounded_gridGood payload h

theorem bounded_gridProtocol (port : Option Byte) (tag : Option Word) (h : s.bounded) :
    (gridProtocol port tag s).bounded := bounded_report _ h

theorem bounded_forCall (call : Half) {k : Call → State → State} (hk : ∀ c t, t.bounded → (k c t).bounded)
    (h : s.bounded) : (forCall call k s).bounded := by
  unfold forCall
  split
  · exact bounded_gridProtocol _ _ h
  · exact hk _ _ h

theorem bounded_forPort (port : Byte) (tag : Word) {k : Port → State → State} (hk : ∀ p t, t.bounded → (k p t).bounded)
    (h : s.bounded) : (forPort port tag k s).bounded := by
  unfold forPort
  split
  · exact bounded_gridProtocol _ _ h
  · split
    · exact hk _ _ h
    · exact bounded_gridProtocol _ _ h

theorem bounded_arriveCard (c : Call) (p : Port) (kind : EntryKind) (h : s.bounded) :
    (arriveCard c p kind s).bounded := by
  simp only [arriveCard]
  split
  · exact h
  · exact bounded_startExposure _ p h

theorem bounded_misroute (c : Call) (p : Port) (h : s.bounded) : (misroute c p s).bounded :=
  show (joinLane p _ (countBench _ _ (report _ (returnCard _ (removeCall c.number s))))).bounded from
    bounded_report _ (bounded_returnCard _ h)

theorem bounded_arrivedAt (p : Port) (tag : Word) (h : s.bounded) : (arrivedAt p tag s).bounded := by
  unfold arrivedAt
  split
  · exact bounded_gridProtocol _ _ h
  · split
    · exact bounded_report _ h
    · split
      · exact bounded_settle (bounded_lookup tag _ h)
      · split
        · exact bounded_settle (bounded_arriveCard _ p _ h)
        · split
          · exact bounded_settle (bounded_arriveCard _ p _ h)
          · exact bounded_settle (bounded_misroute _ p h)

theorem bounded_dockedAt (p : Port) (tag : Word) (h : s.bounded) : (dockedAt p tag s).bounded := by
  unfold dockedAt
  split
  · split
    · split
      · exact bounded_settle (bounded_dockHead p h)
      · exact h
    · exact bounded_gridProtocol _ _ h
  · exact bounded_gridProtocol _ _ h

theorem bounded_departHead (p : Port) (e : Entry) (h : s.bounded) : (departHead p e s).bounded := by
  simp only [departHead]
  split
  · exact bounded_returnCard _ h
  · exact h

theorem bounded_withdrawRequest (p : Port) (h : s.bounded) : (withdrawRequest p s).bounded := bounded_withdrawTarget _ h

theorem bounded_departedAt (p : Port) (tag : Word) (h : s.bounded) : (departedAt p tag s).bounded := by
  unfold departedAt
  split
  · exact bounded_gridProtocol _ _ h
  · split
    · exact bounded_gridProtocol _ _ h
    · split
      · exact bounded_settle (bounded_endTenure _ (bounded_departHead p _ h))
      · exact bounded_settle (bounded_gridProtocol _ _ (bounded_withdrawRequest p (bounded_departHead p _ h)))
      · exact bounded_settle (bounded_departHead p _ h)
      · exact bounded_gridProtocol _ _ h

theorem bounded_recircCleared (h : s.bounded) : (recircCleared s).bounded := by
  unfold recircCleared
  split
  · exact bounded_settle (bounded_endTenure _ h)
  · split
    · exact h
    · split
      · exact bounded_settle (bounded_withdrawTarget _ h)
      · exact bounded_gridProtocol _ _ h

theorem bounded_returnHoldTaken (q : Half) (h : s.bounded) : (returnHoldTaken q s).bounded := by
  simp only [returnHoldTaken]
  split
  · exact bounded_settle h
  · exact h

/-! ### The Bench Links and the panels -/

theorem bounded_benchGood (b : Bench) (payload : Nat) (h : s.bounded) : (benchGood b payload s).bounded := by
  have good := bounded_setBenchLink (b := b) (l := (s.bench b).link.goodFrame payload) (bounded_benchQueue b h) h
  simp only [benchGood]
  split
  · exact good
  · exact bounded_panelReset b (bounded_raise .benchLink (bounded_setBenchLink (bounded_benchQueue b good) good))

theorem bounded_nextTicket (b : Bench) (h : s.bounded) : (nextTicket b s).bounded :=
  bounded_setBench (bounded_benchQueue b h) h

theorem bounded_takePanel (b : Bench) (ty : PanelType) (port p : Byte) (inRange : Bool) {k : State → State}
    (hk : ∀ t, t.bounded → (k t).bounded) (h : s.bounded) : (takePanel b ty port p inRange k s).bounded := by
  have ticketed := bounded_nextTicket b (bounded_benchGood b ty.payload h)
  simp only [takePanel]
  split
  · split
    · exact hk _ (bounded_setAwaited b _ (bounded_answer b _ ticketed))
    · exact bounded_benchHand b _ ticketed
  · split
    · exact bounded_benchHand b _ ticketed
    · exact hk _ (bounded_setAwaited b _ ticketed)

theorem bounded_staffingMessage (b : Bench) (takes : Bool) (new : Staffing) (picker : Half) (h : s.bounded) :
    (staffingMessage b takes new picker s).bounded := by
  unfold staffingMessage
  split
  · exact bounded_settle (bounded_answer b _ (bounded_changeStaffing b new picker h))
  · exact bounded_answer b _ h

theorem bounded_forPosition (b : Bench) (p : Byte) {k : PutPos → State → State}
    (hk : ∀ q t, t.bounded → (k q t).bounded) (h : s.bounded) : (forPosition b p k s).bounded := by
  unfold forPosition
  split
  · exact hk _ _ h
  · exact h

theorem bounded_placeAt (b : Bench) (tag : Word) (q : PutPos) (h : s.bounded) : (placeAt b tag q s).bounded := by
  simp only [placeAt]
  split
  · exact bounded_answer b _ h
  · split
    · exact bounded_answer b _ h
    · split
      · exact bounded_answer b _ h
      · exact bounded_settle (bounded_lookup tag _ h)

theorem bounded_fullAt (b : Bench) (q : PutPos) (h : s.bounded) : (fullAt b q s).bounded := by
  unfold fullAt
  split
  · exact bounded_settle (bounded_answer b _ (bounded_stopAccepting q _ h))
  · exact bounded_answer b _ h
  · exact bounded_answer b _ h
  · exact bounded_answer b _ h

theorem bounded_pickEffects (p : Port) (l : Line) (qty : Nat) (h : s.bounded) : (pickEffects p l qty s).bounded := by
  simp only [pickEffects]
  split
  · exact bounded_showLine p _ (bounded_reportUnits _ qty h)
  · exact bounded_settleEntry p (bounded_reportLine _ (bounded_unshowLine p l (bounded_reportUnits _ qty h)))

theorem bounded_pickPresenting (b : Bench) (p : Port) (e : Entry) (c : CardCtx) (q : PutPos) (qty : Nat)
    (h : s.bounded) : (pickPresenting b p e c q qty s).bounded := by
  unfold pickPresenting
  split
  · exact bounded_answer b _ h
  · split
    · exact bounded_answer b _ h
    · exact bounded_settle (bounded_answer b _ (bounded_pickEffects p _ qty h))

theorem bounded_pickAt (b : Bench) (port : Byte) (qty : Nat) (q : PutPos) (h : s.bounded) :
    (pickAt b port qty q s).bounded := by
  unfold pickAt
  split
  · exact bounded_answer b _ h
  · split
    · exact bounded_answer b _ h
    · split
      · exact bounded_answer b _ h
      · split
        · exact bounded_pickPresenting b _ _ _ q qty h
        · exact bounded_answer b _ h

theorem bounded_endBenchLines (b : Bench) (lr : LineResult) {told : Port → CardCtx → Nat → State → State} (port : Byte)
    (ht : ∀ p c n t, t.bounded → (told p c n t).bounded) (h : s.bounded) : (endBenchLines b lr told port s).bounded := by
  simp only [endBenchLines]
  split
  · exact bounded_answer b _ h
  · split
    · exact bounded_answer b _ h
    · exact bounded_settle (bounded_answer b _ (bounded_settleEntry _ (ht _ _ _ _ (bounded_resolveHead _ _ _ h))))

/-! ### Registers and time -/

theorem bounded_controlWrite (value : Word) (h : s.bounded) : (controlWrite value s).bounded := by
  simp only [controlWrite]
  split
  · exact bounded_clearAll h
  · have loaded := bounded_findSignals s.live.suppressPrior (bounded_setPau
      (p := { s.pau with run := value.getLsbD 0, noticeEnable := value.getLsbD 2 }) rfl h)
    split
    · split
      · exact bounded_beginStarting loaded
      · exact loaded
    · exact bounded_setPau rfl loaded
    · split
      · exact bounded_settle (bounded_enterDraining loaded)
      · exact loaded
    · exact loaded

/-- R3: a write to AREA_LO leaves bits 11:0 zero. -/
theorem areaLo_aligned (w : Word) : (w &&& 0xFFFFF000) &&& 0xFFF = 0 := by
  rw [BitVec.and_assoc]
  exact BitVec.and_zero

theorem bounded_takeTimed (e : TimedEvent) (h : s.bounded) : (takeTimed e s).bounded := by
  unfold takeTimed
  split
  · split
    · exact bounded_findLate _ h
    · split
      · exact bounded_warnRecord _ _ h
      · exact h
    · split
      · exact bounded_compareRecord _ _ h
      · exact h
    · split
      · unfold lookAtWait
        split
        · exact h
        · exact bounded_finishStaged _ _ _ h
      · exact h
  · exact h

theorem bounded_timedEvent (e : TimedEvent) (h : s.bounded) : (timedEvent e s).bounded := by
  unfold timedEvent
  split
  · exact bounded_settle (bounded_takeTimed e h)
  · exact h

theorem bounded_callTimer (n : Nat) (runs : Call → Bool) {k : Call → State → State}
    (hk : ∀ c t, t.bounded → (k c t).bounded) (h : s.bounded) : (callTimer n runs k s).bounded := by
  unfold callTimer
  split
  · exact h
  · split
    · exact bounded_settle (hk _ _ h)
    · exact h

theorem bounded_resendCall (c : Call) (h : s.bounded) : (resendCall c s).bounded :=
  show (count _ (gridHand _ (putCall _ s))).bounded from bounded_gridHand _ h

theorem bounded_timedOutHolder (r : Requester) (h : s.bounded) : (timedOutHolder r s).bounded := by
  cases r with
  | recirc => exact bounded_report _ h
  | port p =>
    simp only [timedOutHolder]
    split
    · exact h
    · refine bounded_report _ ?_
      split
      · exact bounded_returnCard _ h
      · exact h

theorem bounded_tickLinks (h : s.bounded) : (tickLinks s).bounded := by
  have ⟨area, lookups, _⟩ := h
  exact ⟨area, lookups, ⟨bounded_gridQueue (s := s) h, benchQueues_map (fun _ => Nat.le_refl _) h⟩,
    bounded_portCount (s := s) h⟩

theorem bounded_tick (h : s.bounded) : (tick s).bounded := by
  unfold tick
  split <;> exact bounded_tickLinks h

/-! ### Every command -/

/-- The next state of an answer, if it has one, meets the capacities. -/
def Bounded (o : Out) : Prop := ∀ t, o = .next t → t.bounded

theorem Bounded.next {t : State} (h : t.bounded) : Bounded (.next t) := fun _ e => by cases e; exact h

theorem Bounded.fault (f : Fault) : Bounded (.fault f) := fun _ e => nomatch e

theorem bounded_execFloorClockAdvance (apart : List TimedEvent) (h : s.bounded) :
    Bounded (execFloorClockAdvance apart s) := by
  refine .next (bounded_ite _ (bounded_settle ?_) h)
  exact bounded_foldl (fun _ e => bounded_takeTimed e) _ h

theorem bounded_execAreaLo (value : Word) (h : s.bounded) : Bounded (execAreaLo value s) := by
  refine .next (bounded_ite _ ?_ h)
  obtain ⟨-, rest⟩ := h
  exact ⟨areaLo_aligned value, rest⟩

theorem bounded_execEdition (value : Word) (h : s.bounded) : Bounded (execEdition value s) := by
  refine .next (bounded_ite _ ?_ h)
  split <;> exact h

theorem bounded_execTimedSweepTimerExpiry (h : s.bounded) : Bounded (execTimedSweepTimerExpiry s) := by
  refine .next (bounded_ite _ ?_ h)
  split
  · exact bounded_stage3 (s := setSweep _ (setPau _ s)) h
  · exact h

theorem bounded_execTenureTimeout (h : s.bounded) : Bounded (execTenureTimeout s) := by
  refine .next ?_
  split
  · exact bounded_ite _ (bounded_settle (bounded_count _ (bounded_timedOutHolder _ (bounded_openMerge _ h)))) h
  · exact h

theorem bounded_execGateSwingEnd (h : s.bounded) : Bounded (execGateSwingEnd s) := by
  refine .next ?_
  split
  · exact bounded_ite _ (bounded_settle (bounded_ite _ (bounded_openMerge _ h) h)) h
  · exact h

theorem bounded_execGridLinkDown (h : s.bounded) : Bounded (execGridLinkDown s) := by
  have down := bounded_gridLinkDown h
  exact .next (bounded_ite _ (bounded_ite _ (bounded_settle down) down) h)

theorem bounded_dropGridFrame (bytes : List Byte) (h : s.bounded) : (dropGridFrame bytes s).bounded :=
  bounded_count _ (bounded_setGridLink (bounded_gridQueue h) h)

theorem bounded_dropBenchFrame (b : Bench) (bytes : List Byte) (h : s.bounded) : (dropBenchFrame b bytes s).bounded :=
  bounded_count _ (bounded_setBenchLink (bounded_benchQueue b h) h)

theorem bounded_execBenchLinkDown (b : Bench) (h : s.bounded) : Bounded (execBenchLinkDown b s) := by
  have down := bounded_raise .benchLink (bounded_setBench (b := b)
    (c := { s.bench b with link := { (s.bench b).link.clearQueue with up := false }, awaited := none })
    (Nat.zero_le _) h)
  exact .next (bounded_ite _ (bounded_ite _ down (bounded_settle (bounded_changeStaffing b _ _ down))) h)

theorem bounded_execBenchFrameSent (b : Bench) (h : s.bounded) : Bounded (execBenchFrameSent b s) :=
  .next (bounded_ite _ (bounded_setBenchLink (Nat.le_trans (Link.frameSent_queue_length _ _) (bounded_benchQueue b h)) h) h)

theorem bounded_execGridFrameSent (h : s.bounded) : Bounded (execGridFrameSent s) :=
  .next (bounded_ite _ (bounded_setGridLink (Nat.le_trans (Link.frameSent_queue_length _ _) (bounded_gridQueue h)) h) h)

theorem bounded_execGridIdleLineCheck (h : s.bounded) : Bounded (execGridIdleLineCheck s) :=
  .next (bounded_setGridLink (by rw [Link.idleExpiry_queue]; exact bounded_gridQueue h) h)

theorem bounded_execBenchIdleLineCheck (b : Bench) (h : s.bounded) : Bounded (execBenchIdleLineCheck b s) :=
  .next (bounded_setBenchLink (by rw [Link.idleExpiry_queue]; exact bounded_benchQueue b h) h)

/-- A return that carries bytes, of the length of its read or not. -/
theorem bounded_ofLength (c : Prop) [Decidable c] {t : State} (f : Fault) (ht : t.bounded) :
    Bounded (if c then .next t else .fault f) := by
  split
  · exact .next ht
  · exact .fault f

/-- Each command keeps the capacities. -/
theorem bounded_exec (c : Instr) (h : s.bounded) : Bounded (exec c s) := by
  cases c with
  | run v => exact .next (bounded_controlWrite v h)
  | clear v => exact .next (bounded_controlWrite v h)
  | noticeEnable v => exact .next (bounded_controlWrite v h)
  | areaLo v => exact bounded_execAreaLo v h
  | areaHi v => exact .next (bounded_ite _ (bounded_setPau rfl h) h)
  | edition v => exact bounded_execEdition v h
  | events v => exact .next (bounded_findSignals false h)
  | eventMask v => exact .next (bounded_findSignals _ h)
  | registerWriteDiscarded off en v => exact .next h
  | powerOnReset => exact .next (bounded_resetAll _ s)
  | busReset => exact .next (bounded_resetAll _ s)
  | settingsReadReturn id data =>
    exact bounded_ofLength _ _ (bounded_withRead id _ (fun _ _ => bounded_settingsReturned data) h)
  | readBusError id => exact .next (bounded_busError id h)
  | readTimeout id => exact .next (bounded_busError id h)
  | stampReadReturn id stamp =>
    exact .next (bounded_withRead id _ (fun _ _ ht => bounded_advanceSweep (bounded_stampReturned stamp ht)) h)
  | liveSettingsReadReturn id data =>
    exact bounded_ofLength _ _ (bounded_withRead id _
      (fun _ _ ht => bounded_advanceSweep (bounded_settle (bounded_liveReturned _ ht))) h)
  | starvedChainReadReturn id v =>
    exact .next (bounded_withRead id _
      (fun _ _ ht => bounded_advanceSweep (bounded_settle (bounded_starvedReturned _ _ _ v ht))) h)
  | cardFlagsReadReturn id f =>
    exact .next (bounded_withRead id _
      (fun _ _ ht => bounded_advanceSweep (bounded_settle (bounded_cardFlagsReturned _ _ f ht))) h)
  | orderFlagsReadReturn id f =>
    exact .next (bounded_withRead id _
      (fun _ _ ht => bounded_advanceSweep (bounded_settle (bounded_orderFlagsReturned _ _ f ht))) h)
  | linkStepReadReturn id v =>
    exact .next (bounded_withRead id _ (fun b _ ht => bounded_settle (bounded_linkReturned b v ht)) h)
  | cardReadReturn id data =>
    exact bounded_ofLength _ _ (bounded_withRead id _ (fun _ _ ht => bounded_settle (bounded_cardReturned _ _ data ht)) h)
  | tagTableReadReturn id w =>
    exact .next (bounded_withRead id _ (fun _ _ ht => bounded_settle (bounded_tagReturned w ht)) h)
  | orderRecordReadReturn id data =>
    exact bounded_ofLength _ _ (bounded_withRead id _
      (fun _ _ ht => bounded_settle (bounded_orderRecordReturned _ _ data ht)) h)
  | timedSweepTimerExpiry => exact bounded_execTimedSweepTimerExpiry h
  | floorClockAdvance apart => exact bounded_execFloorClockAdvance apart h
  | deadlinePassed q => exact .next (bounded_timedEvent _ h)
  | exposureWarning card => exact .next (bounded_timedEvent _ h)
  | exposureRecall card => exact .next (bounded_timedEvent _ h)
  | readyWaitPasses card => exact .next (bounded_timedEvent _ h)
  | answerTimerExpiry n => exact .next (bounded_callTimer n _ (fun c _ => bounded_busyRefusal c) h)
  | retryGapExpiry n => exact .next (bounded_callTimer n _ (fun c _ => bounded_resendCall c) h)
  | inquiryTimerExpiry n => exact .next (bounded_callTimer n _ (fun c _ => bounded_inquiryExpiry c) h)
  | transitTimeout n => exact .next (bounded_callTimer n _ (fun c _ => bounded_transitExpiry c) h)
  | tenureTimeout => exact bounded_execTenureTimeout h
  | gateSwingEnd => exact bounded_execGateSwingEnd h
  | returnHoldEnd => exact .next (bounded_ite _ (bounded_settle (bounded_setMga (bounded_portCount h) h)) h)
  | dispatchHoldRefresh p => exact .next (bounded_ite _ (bounded_sendHold p h) h)
  | holdExpiry p => exact .next (bounded_ite _ h h)
  | gridLinkDown => exact bounded_execGridLinkDown h
  | gridIdleLineCheck => exact bounded_execGridIdleLineCheck h
  | gridFrameSent => exact bounded_execGridFrameSent h
  | gridFrameGapTimeout bytes => exact .next (bounded_ite _ (bounded_dropGridFrame bytes h) h)
  | gridFrameError bytes => exact .next (bounded_ite _ (bounded_dropGridFrame bytes h) h)
  | gridLineCheck => exact .next (bounded_gridGood 0 h)
  | callAccept n =>
    exact .next (bounded_gridMessageTaken 2
      (fun _ => bounded_forCall n (fun c _ ht => bounded_settle (bounded_acceptAnswer c ht))) h)
  | callRefuse n r =>
    exact .next (bounded_gridMessageTaken 3 (fun _ => bounded_forCall n (fun c _ ht =>
      bounded_ite _ (bounded_settle (bounded_refuseAnswer _ c (bounded_count _ ht))) (bounded_gridProtocol _ _ ht))) h)
  | dispatched n =>
    exact .next (bounded_gridMessageTaken 2
      (fun _ => bounded_forCall n (fun c _ ht => bounded_settle (bounded_dispatchedAnswer c ht))) h)
  | callStatus n status =>
    exact .next (bounded_gridMessageTaken 3 (fun _ => bounded_forCall n (fun c _ ht =>
      bounded_ite _ (bounded_settle (bounded_statusAnswer _ c ht)) (bounded_gridProtocol _ _ ht))) h)
  | arrived port tag =>
    exact .next (bounded_gridMessageTaken 6 (fun _ => bounded_forPort port tag (fun p _ => bounded_arrivedAt p tag)) h)
  | docked port tag =>
    exact .next (bounded_gridMessageTaken 6 (fun _ => bounded_forPort port tag (fun p _ => bounded_dockedAt p tag)) h)
  | departed port tag =>
    exact .next (bounded_gridMessageTaken 6 (fun _ => bounded_forPort port tag (fun p _ => bounded_departedAt p tag)) h)
  | recircRequest =>
    exact .next (bounded_gridMessageTaken 0
      (fun _ ht => bounded_settle (bounded_setMga (bounded_portCount ht) ht)) h)
  | recircClear => exact .next (bounded_gridMessageTaken 0 (fun _ => bounded_recircCleared) h)
  | returnHold q => exact .next (bounded_gridMessageTaken 2 (fun _ => bounded_returnHoldTaken q) h)
  | benchLinkDown b => exact bounded_execBenchLinkDown b h
  | benchIdleLineCheck b => exact bounded_execBenchIdleLineCheck b h
  | benchFrameSent b => exact bounded_execBenchFrameSent b h
  | benchFrameGapTimeout b bytes => exact .next (bounded_ite _ (bounded_dropBenchFrame b bytes h) h)
  | benchFrameError b bytes => exact .next (bounded_ite _ (bounded_dropBenchFrame b bytes h) h)
  | benchLineCheck b => exact .next (bounded_benchGood b 0 h)
  | signOn b picker => exact .next (bounded_takePanel b _ _ _ _ (fun _ => bounded_staffingMessage b _ _ _) h)
  | signOff b => exact .next (bounded_takePanel b _ _ _ _ (fun _ => bounded_staffingMessage b _ _ _) h)
  | breakOff b => exact .next (bounded_takePanel b _ _ _ _ (fun _ => bounded_staffingMessage b _ _ _) h)
  | back b => exact .next (bounded_takePanel b _ _ _ _ (fun _ => bounded_staffingMessage b _ _ _) h)
  | place b p tag =>
    exact .next (bounded_takePanel b _ _ _ _ (fun _ => bounded_forPosition b p (fun q _ => bounded_placeAt b tag q)) h)
  | remove b p =>
    exact .next (bounded_takePanel b _ _ _ _ (fun _ => bounded_forPosition b p
      (fun q _ ht => bounded_settle (bounded_answer b _ (bounded_removeAt q ht)))) h)
  | full b p =>
    exact .next (bounded_takePanel b _ _ _ _ (fun _ => bounded_forPosition b p (fun q _ => bounded_fullAt b q)) h)
  | pick b port p qty =>
    exact .next (bounded_takePanel b _ _ _ _ (fun _ => bounded_forPosition b p (fun q _ => bounded_pickAt b port _ q)) h)
  | short b port =>
    exact .next (bounded_takePanel b _ _ _ _
      (fun _ => bounded_endBenchLines b _ port (fun _ _ _ _ ht => bounded_count _ (bounded_report _ ht))) h)
  | toteDone b port =>
    exact .next (bounded_takePanel b _ _ _ _
      (fun _ => bounded_endBenchLines b _ port (fun _ _ _ _ ht => bounded_count _ ht)) h)

/-- Settles O57: an idle step and every command keep the capacities. -/
theorem everyStepKeepsTheCapacities : Obligations.EveryStepKeepsTheCapacities := by
  intro s t h e
  unfold step at e
  split at e
  next idle => cases e; exact bounded_tick h
  next c rest _ => exact bounded_exec (s := { s with pending := rest }) c h t e

end Sys2Proof.Machine
end

section
/-! SUPPORT. The register window, the resets and the Status Block: O3, O4, O5, O10 and O11. -/

namespace Sys2Proof.Machine

/-! ### Writes to the registers (O4, O5) -/

/-- What a Status Block write changes: the write sequence counter and the posted writes. -/
theorem writeStatus_changes (s : State) : ∃ n w, writeStatus s = { s with
    pau := { s.pau with writeSeq := n }, bus := { s.bus with posted := s.bus.posted ++ w } } := by
  unfold writeStatus
  split
  · exact ⟨s.pau.writeSeq, [], by simp⟩
  · exact ⟨_, _, by simp only [post, List.append_assoc]; rfl⟩

/-- What a change of run state changes: the run state, and what the Status Block write and RUN_STATE touch. -/
theorem setRunState_changes (r : RunState) (s : State) : ∃ n ev g w, setRunState r s = { s with
    pau := { s.pau with runState := r, writeSeq := n }
    bus := { s.bus with posted := s.bus.posted ++ w }
    ntu := { s.ntu with events := ev, signals := g } } := by
  obtain ⟨n, w, hw⟩ := writeStatus_changes { s with pau := { s.pau with runState := r } }
  obtain ⟨g, v, hv⟩ := raise_changes .runState (writeStatus { s with pau := { s.pau with runState := r } })
  refine ⟨n, s.ntu.events ||| Event.runState.bits, g, w ++ v, ?_⟩
  unfold setRunState
  rw [hv, hw]
  simp [State.noticed]

theorem beginStarting_reads (s : State) : (beginStarting s).bus.reads = s.bus.reads ++
    [{ id := s.bus.nextRead, purpose := .settings, addr := s.areaBase, len := 256, discarded := false }] := by
  obtain ⟨n, ev, g, w, h⟩ := setRunState_changes .starting (setPau { s.pau with drainDue := false, sweepTimer := none } s)
  simp only [beginStarting, h]
  rfl

/-- Settles O4. -/
theorem areaRegistersLoadInStoppedOnly : Obligations.AreaRegistersLoadInStoppedOnly := by
  intro s w
  refine ⟨fun stopped => ?_, fun other => ?_, areaLo_aligned w, rfl, beginStarting_reads s, rfl, fun _ => rfl, fun _ => rfl,
    fun _ => rfl, fun _ => rfl⟩
  · simp [exec, execAreaLo, execAreaHi, stopped, setPau]
  · simp [exec, execAreaLo, execAreaHi, other]

/-- Settles O5: the arm of a discarded write answers the state itself. -/
theorem discardedRegisterWriteChangesNothing : Obligations.DiscardedRegisterWriteChangesNothing :=
  fun _ _ _ _ _ => rfl

/-! ### The window (O10) -/

theorem RunState.code_lt (r : RunState) : r.code < 8 := by cases r <;> decide

theorem ResetCause.code_lt (c : ResetCause) : c.code < 4 := by cases c <;> decide

theorem bit_eq (b : Bool) (n : Nat) : bit b n = 2 ^ n * b.toNat := by cases b <;> simp [bit]

theorem benchLinkBits_eq (s : State) : benchLinkBits s = (s.bench 0).link.up.toNat + 2 * (s.bench 1).link.up.toNat
    + 4 * (s.bench 2).link.up.toNat + 8 * (s.bench 3).link.up.toNat := by
  show bit _ 0 + (bit _ 1 + (bit _ 2 + (bit _ 3 + 0))) = _
  simp only [bit_eq]
  omega

/-- What holds of each of the four benches holds of every bench. -/
theorem bench_cases {P : Bench → Prop} (h0 : P 0) (h1 : P 1) (h2 : P 2) (h3 : P 3) (b : Bench) : P b :=
  match b with
  | ⟨0, _⟩ => h0
  | ⟨1, _⟩ => h1
  | ⟨2, _⟩ => h2
  | ⟨3, _⟩ => h3

/-- Bit n of a number whose digit there is a Boolean. -/
theorem testBit_of_digit {x n : Nat} {b : Bool} (h : x / 2 ^ n % 2 = b.toNat) : x.testBit n = b := by
  rw [Nat.testBit_eq_decide_div_mod_eq, h]
  cases b <;> rfl

theorem registerValue_unassigned (s : State) {n : Nat} (h : 8 ≤ n) : registerValue s n = 0 := by
  obtain ⟨k, rfl⟩ := Nat.exists_eq_add_of_le' h
  rfl

/-- R1: an unassigned offset reads 0. -/
theorem windowByte_unassigned (s : State) {off : Nat} (h : 0x20 ≤ off) : windowByte s off = 0 := by
  have number : 8 ≤ off / 4 := by omega
  simp [windowByte, registerValue_unassigned s number]

/-- R2, Table 1-6: STATUS as the sum of its fields. -/
theorem status_eq (s : State) : registerValue s 2 = s.pau.runState.code + s.pau.resetCause.code * 16
    + s.pau.errorCode * 256 + s.glc.link.up.toNat * 65536 + benchLinkBits s * 131072 := by
  simp only [registerValue, statusValue, bit_eq]
  omega

theorem status_fields {s : State} (h : s.pau.errorCode < 64) :
    registerValue s 2 % 8 = s.pau.runState.code ∧ registerValue s 2 / 16 % 4 = s.pau.resetCause.code
    ∧ registerValue s 2 / 256 % 64 = s.pau.errorCode ∧ (registerValue s 2).testBit 16 = s.glc.link.up := by
  have run := s.pau.runState.code_lt
  have cause := s.pau.resetCause.code_lt
  have up := s.glc.link.up.toNat_le
  rw [status_eq]
  exact ⟨by omega, by omega, by omega, testBit_of_digit (by omega)⟩

theorem status_benchBit {s : State} (h : s.pau.errorCode < 64) (b : Bench) :
    (registerValue s 2).testBit (17 + b.val) = (s.bench b).link.up := by
  have run := s.pau.runState.code_lt
  have cause := s.pau.resetCause.code_lt
  have up := s.glc.link.up.toNat_le
  have up0 := (s.bench 0).link.up.toNat_le
  have up1 := (s.bench 1).link.up.toNat_le
  have up2 := (s.bench 2).link.up.toNat_le
  have up3 := (s.bench 3).link.up.toNat_le
  apply testBit_of_digit
  rw [status_eq, benchLinkBits_eq]
  refine bench_cases (P := fun b => _ / 2 ^ (17 + b.val) % 2 = (s.bench b).link.up.toNat) ?_ ?_ ?_ ?_ b
  · show _ / 2 ^ 17 % 2 = (s.bench 0).link.up.toNat
    omega
  · show _ / 2 ^ 18 % 2 = (s.bench 1).link.up.toNat
    omega
  · show _ / 2 ^ 19 % 2 = (s.bench 2).link.up.toNat
    omega
  · show _ / 2 ^ 20 % 2 = (s.bench 3).link.up.toNat
    omega

theorem control_bits (s : State) : (registerValue s 1).testBit 0 = s.pau.run
    ∧ (registerValue s 1).testBit 1 = false ∧ (registerValue s 1).testBit 2 = s.pau.noticeEnable := by
  have run := s.pau.run.toNat_le
  have enable := s.pau.noticeEnable.toNat_le
  simp only [registerValue, controlValue, bit_eq]
  refine ⟨testBit_of_digit ?_, testBit_of_digit ?_, testBit_of_digit ?_⟩
  · omega
  · simp only [Bool.toNat_false]; omega
  · omega

/-- Settles O10. -/
theorem registersReadTheirFields : Obligations.RegistersReadTheirFields := by
  intro s h
  obtain ⟨run, cause, error, grid⟩ := status_fields h
  obtain ⟨bit0, bit1, bit2⟩ := control_bits s
  exact ⟨run, cause, error, grid, status_benchBit h, bit0, bit1, bit2, rfl, rfl, rfl, rfl, rfl,
    fun _ => windowByte_unassigned s⟩

/-! ### Resets (O3) -/

theorem discardReads_discarded (s : State) : ∀ r ∈ (discardReads s).bus.reads, r.discarded = true := by
  intro r hr
  obtain ⟨x, -, rfl⟩ := List.mem_map.mp hr
  rfl

/-- Table 1-1: after a reset STATUS shows the reset cause and nothing else. -/
theorem resetAll_status (cause : ResetCause) (s : State) : registerValue (resetAll cause s) 2 = cause.code * 16 := by
  have links : benchLinkBits (resetAll cause s) = 0 := by simp [benchLinkBits_eq, resetAll_bench, Blc.initial, Link.initial]
  have grid : (resetAll cause s).glc.link.up = false := rfl
  have pau : (resetAll cause s).pau = { Pau.initial with resetCause := cause } := rfl
  simp [status_eq, links, grid, pau, Pau.initial, RunState.code]

/-- Settles O3: the reset state's registers are evaluated; both resets are `resetAll`. -/
theorem resetsLeaveTableOneOne : Obligations.ResetsLeaveTableOneOne := by
  refine ⟨by decide, by decide, fun s => ?_⟩
  exact ⟨resetAll .powerOn s, resetAll .busReset s, rfl, rfl, rfl, rfl, rfl, rfl, discardReads_discarded s,
    resetAll_status .powerOn s, resetAll_status .busReset s⟩

/-! ### The Status Block (O11) -/

/-- The pieces of the 512 bytes in their order: head, counter, bench records, port records, merge, capture, counters, what is
left 0, the counter's copy (Table 1-12). -/
def statusPieces (s : State) : List (List Byte) :=
  [statusHead s, natToBytes 4 s.pau.writeSeq.toNat] ++ allBenches.map (benchRecordBytes s)
  ++ allPorts.map (portRecordBytes s) ++ [mergeRecordBytes s, s.ntu.capture.bytes, partCounterBytes s.ntu.counters]
  ++ allBenches.map (fun b => s.ntu.counters.bench[b].bytes) ++ [natToBytes 92 0, natToBytes 4 s.pau.writeSeq.toNat]

/-- The lengths of the pieces. -/
def statusLengths : List Nat := [12, 4, 8, 8, 8, 8, 4, 4, 4, 4, 4, 4, 4, 4, 4, 4, 8, 32, 64, 56, 56, 56, 56, 92, 4]

theorem statusPieces_lengths (s : State) : (statusPieces s).map List.length = statusLengths := by
  simp [statusPieces, statusLengths, allBenches, allPorts]

theorem statusPieces_flatten (s : State) : (statusPieces s).flatten =
    statusHead s ++ natToBytes 4 s.pau.writeSeq.toNat ++ statusBody s ++ natToBytes 4 s.pau.writeSeq.toNat := by
  rw [statusBody_pieces]
  simp only [statusPieces, allBenches, allPorts, List.map_cons, List.map_nil, List.flatten_append, List.flatten_cons,
    List.flatten_nil, List.append_nil, List.append_assoc] <;> rfl

/-- A piece is found at the sum of the lengths before it. -/
theorem flatten_slice {α : Type} (ls : List (List α)) {i off len : Nat} {x : List α} (hx : ls[i]? = some x)
    (hoff : ((ls.map List.length).take i).sum = off) (hlen : x.length = len) :
    (ls.flatten.drop off).take len = x := by
  subst hoff hlen
  induction ls generalizing i with
  | nil => exact absurd hx (by simp)
  | cons l ls ih =>
    cases i with
    | zero =>
      obtain rfl : l = x := by simpa using hx
      exact List.take_left
    | succ i =>
      have rest : ls[i]? = some x := by simpa using hx
      rw [List.map_cons, List.take_succ_cons, List.sum_cons, List.flatten_cons, List.drop_length_add_append]
      exact ih rest

/-- Table 1-12: the bytes of a piece in the block, by its number among the pieces. -/
theorem status_slice (s : State) (i : Nat) {off len : Nat} {x : List Byte} (hx : (statusPieces s)[i]? = some x)
    (hoff : (statusLengths.take i).sum = off) (hlen : x.length = len) :
    ((statusPieces s).flatten.drop off).take len = x :=
  flatten_slice _ hx (by rw [statusPieces_lengths]; exact hoff) hlen

theorem status_benchSlice (s : State) (b : Bench) :
    ((statusPieces s).flatten.drop (0x010 + 8 * b.val)).take 8 = benchRecordBytes s b := by
  have piece : (statusPieces s)[2 + b.val]? = some (benchRecordBytes s b) := 
    bench_cases (P := fun b => (statusPieces s)[2 + b.val]? = some (benchRecordBytes s b)) rfl rfl rfl rfl b
  have place : ∀ b : Bench, (statusLengths.take (2 + b.val)).sum = 0x010 + 8 * b.val := by decide
  exact status_slice s (2 + b.val) piece (place b) (benchRecordBytes_length s b)

theorem status_portSlice (s : State) (p : Port) :
    ((statusPieces s).flatten.drop (0x030 + 4 * p.val)).take 4 = portRecordBytes s p := by
  have piece : (statusPieces s)[6 + p.val]? = some (portRecordBytes s p) := by
    match p with
    | 0 | 1 | 2 | 3 | 4 | 5 | 6 | 7 | 8 | 9 => rfl
  have place : ∀ p : Port, (statusLengths.take (6 + p.val)).sum = 0x030 + 4 * p.val := by decide
  exact status_slice s (6 + p.val) piece (place p) (portRecordBytes_length s p)

theorem status_counterSlice (s : State) (b : Bench) :
    ((statusPieces s).flatten.drop (0x0C0 + 0x38 * b.val)).take 0x38 = s.ntu.counters.bench[b].bytes := by
  have piece : (statusPieces s)[19 + b.val]? = some (s.ntu.counters.bench[b].bytes) := 
    bench_cases (P := fun b => (statusPieces s)[19 + b.val]? = some (s.ntu.counters.bench[b].bytes)) rfl rfl rfl rfl b
  have place : ∀ b : Bench, (statusLengths.take (19 + b.val)).sum = 0x0C0 + 0x38 * b.val := by decide
  exact status_slice s (19 + b.val) piece (place b) (BenchCounters.bytes_length _)

theorem natToBytes_zero (k : Nat) : natToBytes k 0 = List.replicate k 0 := by
  induction k with
  | zero => rfl
  | succ k ih => simp [natToBytes, ih, List.replicate_succ]

theorem natToBytes_one (n : Nat) : natToBytes 1 n = [BitVec.ofNat 8 n] := rfl

theorem statusHead_bytes (s : State) : statusHead s = natToBytes 4 s.pau.completedEdition.toNat
    ++ [BitVec.ofNat 8 s.pau.runState.code, BitVec.ofNat 8 s.pau.errorCode, BitVec.ofNat 8 s.pau.resetCause.code,
        BitVec.ofNat 8 ((if s.glc.link.up then 1 else 0) + 2 * benchLinkBits s)]
    ++ natToBytes 4 s.pau.floorClock.toNat := by
  simp [statusHead, natToBytes_one, bit]

theorem benchRecordBytes_eq (s : State) (b : Bench) : benchRecordBytes s b =
    if s.st.benchEnabled b then
      [BitVec.ofNat 8 (s.bench b).staffing.code, BitVec.ofNat 8 (s.chain b).state.code,
       BitVec.ofNat 8 (s.staged b).length, 0] ++ natToBytes 2 ((s.chain b).cursor.getD 0xFFFF) ++ [0, 0]
    else [0, 0, 0, 0, 0xFF, 0xFF, 0, 0] := by
  unfold benchRecordBytes
  split <;> rfl

theorem portRecordBytes_eq (s : State) (p : Port) : portRecordBytes s p =
    if s.st.portPresent p then
      [BitVec.ofNat 8 (s.lane p).length, BitVec.ofNat 8 (s.portCalls p).length,
       (if (s.hold p).holding then 1 else 0),
       BitVec.ofNat 8 (1 + (if s.headStuck p then 2 else 0) + (if s.overdueAt p then 4 else 0))]
    else [0, 0, 0, 0] := by
  unfold portRecordBytes
  split
  · cases (s.hold p).holding <;> rfl
  · rfl

theorem mergeRecordBytes_eq (s : State) : mergeRecordBytes s =
    [BitVec.ofNat 8 (requesterCode s.mga.merge.holder), BitVec.ofNat 8 (requesterCode s.mga.parked),
      BitVec.ofNat 8 ((if s.mga.merge.inSwing then 1 else 0) + (if s.mga.holdTimer = 0 then 0 else 2)), 0]
    ++ natToBytes 2 (returnHoldDs s) ++ [0, 0] := by
  by_cases h : s.mga.holdTimer = 0 <;> simp [mergeRecordBytes, natToBytes, bit, h]

theorem capture_bytes_eq (k : Capture) : k.bytes =
    [BitVec.ofNat 8 (k.kind.elim 0 ExcKind.code), BitVec.ofNat 8 (k.bench.elim 0xFF (fun b => b.val)),
      k.port, (if k.tagPresent then 1 else 0)]
    ++ natToBytes 2 (k.card.getD 0xFFFF) ++ natToBytes 2 (k.order.getD 0xFFFF) ++ natToBytes 4 k.tag.toNat
    ++ natToBytes 4 k.time.toNat ++ natToBytes 4 k.later.toNat ++ List.replicate 12 0 := by
  have tag : BitVec.ofNat 8 (bit k.tagPresent 0) = if k.tagPresent then 1 else 0 := by cases k.tagPresent <;> rfl
  cases kind : k.kind <;> cases bench : k.bench <;>
    simp [Capture.bytes, kind, bench, tag, natToBytes_one, natToBytes_zero]

theorem benchCounters_bytes_eq (n : BenchCounters) : n.bytes = wordsBytes [n.presentations, n.unitsPut, n.linesComplete,
    n.linesShort, n.linesCut, n.exposureWarns, n.recalls, n.misroutes, n.dwell[0], n.dwell[1], n.dwell[2], n.dwell[3],
    n.dwell[4], n.dwell[5]] := by
  have six : n.dwell.toList = [n.dwell[0], n.dwell[1], n.dwell[2], n.dwell[3], n.dwell[4], n.dwell[5]] := by
    refine List.ext_getElem (by simp) fun i h _ => ?_
    have hi : i < 6 := by simpa using h
    match i, hi with
    | 0, _ => simp
    | 1, _ => simp
    | 2, _ => simp
    | 3, _ => simp
    | 4, _ => simp
    | 5, _ => simp
  rw [BenchCounters.bytes, ← wordsBytes_append, six]
  rfl

theorem writeStatus_eq {s : State} {st : Structural} (h : s.pau.structural = some st) :
    let t : State := { s with pau := { s.pau with writeSeq := s.pau.writeSeq + 1 } }
    let seq := natToBytes 4 t.pau.writeSeq.toNat
    writeStatus s = { t with bus := { s.bus with posted := s.bus.posted ++
      [{ addr := st.statusBlock + 0x00C, data := seq }, { addr := st.statusBlock, data := statusHead t },
       { addr := st.statusBlock + 0x010, data := statusBody t }, { addr := st.statusBlock + 0x1FC, data := seq }] } } := by
  simp [writeStatus, h, post]

theorem statusBody_length (s : State) : (statusBody s).length = 0x1FC - 0x010 := by
  simp [statusBody_pieces]

/-- Settles O11: the block is the pieces in their order, each found at its offset. -/
theorem statusBlockWriteIsOneSnapshot : Obligations.StatusBlockWriteIsOneSnapshot := by
  intro s
  refine ⟨fun untaken => by simp [writeStatus, untaken], fun st taken => ?_⟩
  intro t seq block slice c k
  have settings : t.st = st := by simp [t, State.st, taken]
  have block_eq : block = (statusPieces t).flatten := (statusPieces_flatten t).symm
  have at_piece : ∀ off len, slice off len = ((statusPieces t).flatten.drop off).take len := fun off len => by
    simp only [slice, block_eq]
  refine ⟨writeStatus_eq taken, statusHead_length t, statusBody_length t, ?_, fun b => ?_, fun p => ?_, ?_, ?_, ?_,
    fun b => ?_, ?_, ?_⟩
  · rw [at_piece, status_slice t 0 (off := 0x000) rfl rfl (statusHead_length t), statusHead_bytes]; rfl
  · rw [at_piece, status_benchSlice, benchRecordBytes_eq, settings]; rfl
  · rw [at_piece, status_portSlice, portRecordBytes_eq, settings]; rfl
  · rw [at_piece, status_slice t 16 (off := 0x058) rfl rfl (mergeRecordBytes_length t), mergeRecordBytes_eq]; rfl
  · rw [at_piece, status_slice t 17 (off := 0x060) rfl rfl (Capture.bytes_length _), capture_bytes_eq]
  · rw [at_piece, status_slice t 18 (off := 0x080) rfl rfl (partCounterBytes_length _)]; rfl
  · intro n; rw [at_piece, status_counterSlice, benchCounters_bytes_eq]
  · rw [at_piece, status_slice t 23 (off := 0x1A0) rfl rfl (natToBytes_length _ _), natToBytes_zero]
  · rw [block_eq, List.length_flatten, statusPieces_lengths]; rfl

end Sys2Proof.Machine
end

section
/-! SUPPORT. Sweeps and the ends of reads: O6, O16 to O20 and O27. -/

namespace Sys2Proof.Machine

/-! ### Sweeps begun and ended (O6, O27) -/

/-- R13: what the beginning of an edition sweep writes. -/
theorem beginEditionSweep_eq (v : Word) (s : State) : beginEditionSweep v s = { s with
    pau := { s.pau with sweep := some { kind := .edition v, stage := .stamp } }
    bus := { s.bus with
      reads := s.bus.reads ++
        [{ id := s.bus.nextRead, purpose := .stamp, addr := s.areaBase, len := 4, discarded := false }]
      nextRead := s.bus.nextRead + 1 } } := rfl

/-- Settles O6. -/
theorem editionWritesAndSweepsDoNotOverlap : Obligations.EditionWritesAndSweepsDoNotOverlap := by
  intro s v
  refine ⟨fun inactive => ?_, fun active free => ?_, fun active sweeping => ?_, fun due => ?_, fun none_due => ?_⟩
  · simp [exec, execEdition, inactive, setPau]
  · simp only [exec, execEdition, active, free, if_true]
    exact congrArg Host.Outcome.next (beginEditionSweep_eq v _)
  · obtain ⟨w, hw⟩ := Option.ne_none_iff_exists'.mp sweeping
    simp only [exec, execEdition, active, hw, if_true]
    rfl
  · simp only [endSweep, setSweep, setPau_self, due, if_true]
    exact beginEditionSweep_eq s.pau.writtenEdition _
  · simp [endSweep, setSweep, setPau, none_due]

/-- Settles O27. -/
theorem timedSweepTimerBeginsASweep : Obligations.TimedSweepTimerBeginsASweep := by
  intro s timer
  have reload : s.live.sweepReload = timer := rfl
  refine ⟨fun active running free => ?_, fun active running sweeping => ?_, fun stopped => ?_⟩
  · have isSome := Option.isSome_iff_ne_none.mpr running
    simp only [exec, execTimedSweepTimerExpiry, active, isSome, free, reload, Bool.and_self, if_true]
    rfl
  · have isSome := Option.isSome_iff_ne_none.mpr running
    obtain ⟨w, hw⟩ := Option.ne_none_iff_exists'.mp sweeping
    simp only [exec, execTimedSweepTimerExpiry, active, isSome, hw, reload, Bool.and_self, if_true]
    rfl
  · have off : (s.active && s.pau.sweepTimer.isSome) = false := by
      rcases stopped with inactive | stopped
      · rw [inactive, Bool.false_and]
      · rw [stopped, Option.isSome_none, Bool.and_false]
    simp [exec, execTimedSweepTimerExpiry, off]

/-! ### Ends of reads without effect (O17) -/

/-- What the end `c` of read `id` must leave alone (R5, R6). -/
def TakesNoEffect (c : Instr) (id : Nat) (s : State) : Prop :=
  (∀ r, s.findRead id = some r → r.discarded = true →
    exec c s = .next (if answersRead c r.purpose then endRead id s else s))
  ∧ (∀ r, s.findRead id = some r → answersRead c r.purpose = false → exec c s = .next s)
  ∧ (s.findRead id = none → exec c s = .next s)

/-- The returns that carry data: they answer the reads whose purpose their `kind` knows. -/
theorem takesNoEffect_of_withRead {α : Type} {c : Instr} {id : Nat} {s : State} {kind : ReadFor → Option α}
    {k : α → State → State} (he : exec c s = .next (withRead id kind k s))
    (hk : ∀ p, answersRead c p = (kind p).isSome) : TakesNoEffect c id s := by
  refine ⟨fun r found discarded => ?_, fun r found other => ?_, fun missing => ?_⟩
  · rw [he, withRead_discarded found discarded, hk]
  · rw [hk, Option.isSome_eq_false_iff, Option.isNone_iff_eq_none] at other
    rw [he]
    simp [withRead, found, other]
  · rw [he, withRead_none missing]

/-- A bus error and a timeout answer every read. -/
theorem takesNoEffect_of_busError {c : Instr} {id : Nat} {s : State} (he : exec c s = .next (busError id s))
    (hk : ∀ p, answersRead c p = true) : TakesNoEffect c id s := by
  refine ⟨fun r found discarded => ?_, fun r _ other => ?_, fun missing => ?_⟩
  · rw [he, hk, if_pos rfl]
    simp [busError, found, discarded]
  · exact absurd (hk r.purpose) (by simp [other])
  · rw [he]
    simp [busError, missing]

/-- Settles O17. -/
theorem readsThatTakeNoEffect : Obligations.ReadsThatTakeNoEffect := by
  intro s id w h f d256 d128 d64 d32 ends long whole
  refine ⟨fun c mem taken => ?_, fun ⟨h256, h128, h64, h32⟩ c mem => ?_⟩
  · show TakesNoEffect c id s
    have short : ∀ c ∈ ends, TakesNoEffect c id s := by
      simp only [ends, List.forall_mem_cons]
      refine ⟨takesNoEffect_of_busError rfl (fun _ => rfl), takesNoEffect_of_busError rfl (fun _ => rfl),
        takesNoEffect_of_withRead rfl ?_, takesNoEffect_of_withRead rfl ?_, takesNoEffect_of_withRead rfl ?_,
        takesNoEffect_of_withRead rfl ?_, takesNoEffect_of_withRead rfl ?_, takesNoEffect_of_withRead rfl ?_,
        fun _ mem => nomatch mem⟩ <;> (intro p; cases p <;> rfl)
    rcases taken with mem_short | ⟨h256, h128, h64, h32⟩
    · exact short c mem_short
    · rcases List.mem_append.mp mem with mem_short | mem_long
      · exact short c mem_short
      · have bytes : ∀ c ∈ long, TakesNoEffect c id s := by
          simp only [long, List.forall_mem_cons]
          refine ⟨takesNoEffect_of_withRead (if_pos h256) ?_, takesNoEffect_of_withRead (if_pos h128) ?_,
            takesNoEffect_of_withRead (if_pos h64) ?_, takesNoEffect_of_withRead (if_pos h32) ?_,
            fun _ mem => nomatch mem⟩ <;> (intro p; cases p <;> rfl)
        exact bytes c mem_long
  · have stops : ∀ c ∈ long, exec c s = .fault .readDataLength := by
      simp only [long, List.forall_mem_cons]
      exact ⟨if_neg h256, if_neg h128, if_neg h64, if_neg h32, fun _ mem => nomatch mem⟩
    exact stops c mem

/-! ### The stamp and the live settings (O18) -/

/-! A return taken, for each kind of read of a sweep: its effect, the settling, the next stage. -/

theorem exec_stampReadReturn {s : State} {id : Nat} (stamp : Word) (h : s.reading id .stamp) :
    exec (.stampReadReturn id stamp) s = .next (advanceSweep (stampReturned stamp (endRead id s))) :=
  congrArg Host.Outcome.next (withRead_reading h rfl)

theorem exec_liveSettingsReadReturn {s : State} {id : Nat} {data : List Byte} (length : data.length = 128)
    (h : s.reading id .liveSettings) : exec (.liveSettingsReadReturn id data) s =
      .next (advanceSweep (settle (liveReturned (parseLive data) (endRead id s)))) :=
  (if_pos length).trans (congrArg Host.Outcome.next (withRead_reading h rfl))

theorem exec_starvedChainReadReturn {s : State} {id : Nat} {b : Bench} {atAnchor : Bool} {cur : Option Nat}
    (value : Half) (h : s.reading id (.starved b atAnchor cur)) : exec (.starvedChainReadReturn id value) s =
      .next (advanceSweep (settle (starvedReturned b atAnchor cur value (endRead id s)))) :=
  congrArg Host.Outcome.next (withRead_reading (a := (b, atAnchor, cur)) h (by rfl))

theorem exec_cardFlagsReadReturn {s : State} {id card : Nat} {seq : Word} (flags : Byte)
    (h : s.reading id (.cardFlags card seq)) : exec (.cardFlagsReadReturn id flags) s =
      .next (advanceSweep (settle (cardFlagsReturned card seq flags (endRead id s)))) :=
  congrArg Host.Outcome.next (withRead_reading (a := (card, seq)) h (by rfl))

theorem exec_orderFlagsReadReturn {s : State} {id j : Nat} {q : PutPos} {held : Bool} (flags : Byte)
    (h : s.reading id (.orderFlags q j held)) : exec (.orderFlagsReadReturn id flags) s =
      .next (advanceSweep (settle (orderFlagsReturned q held flags (endRead id s)))) :=
  congrArg Host.Outcome.next (withRead_reading (a := (q, held)) h (by rfl))

/-- R11: a sweep whose live settings are being read waits for them. -/
theorem advanceSweep_reading {s : State} {w : Sweep} (hw : s.pau.sweep = some w) (hr : s.stageReading w.stage = true) :
    advanceSweep s = s := by simp [advanceSweep, hw, hr]

/-- A stage with a read that has just been asked for is reading. -/
theorem stageReading_of_mem {s : State} {r : Read} {g : SweepStage} (mem : r ∈ s.bus.reads) (live : r.discarded = false)
    (stage : r.purpose.stage = some g) : s.stageReading g = true :=
  List.any_eq_true.mpr ⟨r, mem, by simp [live, stage]⟩

/-- Settles O18. -/
theorem stampAndLiveSettingsReads : Obligations.StampAndLiveSettingsReads := by
  intro s id stamp data
  refine ⟨fun reading same => ?_, fun w reading changed sweeping => ?_, fun reading length good => ?_,
    fun reading length bad => ?_⟩
  · have kept : stampReturned stamp (endRead id s) = endRead id s := if_pos same
    rw [exec_stampReadReturn stamp reading, kept]
  · have asked : stampReturned stamp (endRead id s) = enterStage .liveSettings (issueRead .liveSettings
        (s.areaBase + 0x80) 128 (setPau { s.pau with stampTaken := some stamp } (endRead id s))) := if_neg changed
    rw [exec_stampReadReturn stamp reading, asked, advanceSweep_reading (w := { w with stage := .liveSettings })]
    · simp only [enterStage, setSweep, setPau, issueRead, endRead, sweeping]
      rfl
    · simp [enterStage, setSweep, sweeping]
    · exact stageReading_of_mem (List.mem_append_right _ (List.mem_singleton_self _)) rfl rfl
  · rw [exec_liveSettingsReadReturn length reading, liveReturned, if_pos good, applyLive, findSignals_eq]
    rfl
  · rw [exec_liveSettingsReadReturn length reading, liveReturned, if_neg bad]
    rfl

/-! ### A starved chain's read (O19) -/

theorem findSignals_setChain (quiet : Bool) (b : Bench) (c : Chain) (s : State) :
    findSignals quiet (setChain b c s) = setChain b c (findSignals quiet s) := by
  rw [findSignals_eq, findSignals_eq]
  rfl

theorem raise_setChain (e : Event) (b : Bench) (c : Chain) (s : State) :
    raise e (setChain b c s) = setChain b c (raise e s) := by
  unfold raise
  rw [← findSignals_setChain]
  rfl

/-- R185: what an exception reports does not touch the chains, and looks at none. -/
theorem report_setChain (r : Report) (b : Bench) (c : Chain) (s : State) :
    report r (setChain b c s) = setChain b c (report r s) := by
  unfold report
  have armed : (setChain b c s).armed = s.armed := rfl
  rw [armed]
  split
  · rw [← raise_setChain]
    rfl
  · rfl

theorem setChain_setChain (b : Bench) (c d : Chain) (s : State) : setChain b d (setChain b c s) = setChain b d s := by
  simp [setChain]

/-- R38: the index check of a chain just set. -/
theorem indexCheck_setChain (b : Bench) (i : Nat) (c : Chain) (s : State) : indexCheck b i (setChain b c s) =
    if i < s.st.cardCount then
      issueRead (.cardStep b i) (s.cardAddr i) 64 (setChain b { c with takeInFlight := true } s)
    else setChain b
      { c with state := if c.cursor.isNone then .starvedAtAnchor else .starvedAtLink, takeInFlight := false }
      (report { kind := .badCard, bench := some b, card := some i } s) := by
  have settings : (setChain b c s).st = s.st := rfl
  have place : (setChain b c s).cardAddr i = s.cardAddr i := rfl
  simp only [indexCheck, settings, place, starve, setTakeMark, report_setChain, setChain_chain_self, setChain_setChain]

/-- Settles O19. -/
theorem starvedChainReadEndsStarving : Obligations.StarvedChainReadEndsStarving := by
  intro s id b atAnchor cur value reading starved t
  rw [exec_starvedChainReadReturn value reading]
  refine ⟨fun running chain card => ?_, fun discarded => ?_⟩
  · have still : t.chain b = { state := starved, cursor := cur, takeInFlight := (s.chain b).takeInFlight } := chain
    have taken : starvedReturned b atAnchor cur value t = indexCheck b value.toNat
        (setChain b { t.chain b with state := if atAnchor then .atAnchor else .following } t) :=
      if_pos ⟨running, ⟨congrArg Chain.cursor still, congrArg Chain.state still⟩, card⟩
    rw [taken, still, indexCheck_setChain]
    refine ⟨fun below => ?_, fun above => ?_⟩
    · rw [if_pos (show value.toNat < t.st.cardCount from below)]; rfl
    · rw [if_neg (show ¬ value.toNat < t.st.cardCount from Nat.not_lt.mpr above)]
  · have dropped : starvedReturned b atAnchor cur value t = t := by
      refine if_neg ?_
      rintro ⟨running, ⟨cursor, state⟩, card⟩
      rcases discarded with absent | other | moved | moved
      · exact card absent
      · exact other running
      · exact moved state
      · exact moved cursor
    rw [dropped]

end Sys2Proof.Machine
end

section
/-! SUPPORT. A bus error on a read in flight (O16). -/

namespace Sys2Proof.Machine

/-- What the cancelling of bindings leaves: everything but positions, the Bench Links and the counters. -/
def BindingsOnly (s t : State) : Prop :=
  t = { s with wall := t.wall, blc := t.blc, ntu := { s.ntu with counters := t.ntu.counters } }

theorem BindingsOnly.trans {s t u : State} (a : BindingsOnly s t) (b : BindingsOnly t u) : BindingsOnly s u := by
  unfold BindingsOnly at *
  rw [b, a]

theorem PanelsOnly.bindings {s t : State} (a : PanelsOnly s t) : BindingsOnly s t := by
  unfold BindingsOnly
  rw [a.rest]

theorem bindings_foldl {α : Type} {f : State → α → State} (h : ∀ t a, BindingsOnly t (f t a)) (l : List α) :
    ∀ s, BindingsOnly s (l.foldl f s) := by
  induction l with
  | nil => exact fun s => rfl
  | cons a l ih => exact fun s => (h s a).trans (ih (f s a))

theorem bindings_setPosition (q : PutPos) (e : Position) (s : State) : BindingsOnly s (setPosition q e s) := rfl

theorem bindings_cancelBinding (q : PutPos) (s : State) : BindingsOnly s (cancelBinding q s) := by
  unfold cancelBinding
  split
  · exact (bindings_setPosition q _ s).trans (answerPlace_only q _ _).bindings
  · exact bindings_setPosition q _ s

theorem bindings_cancelBindings (s : State) : BindingsOnly s (cancelBindings s) :=
  bindings_foldl (fun t q => bindings_cancelBinding q t) _ s

/-- R71: what becomes of a position at the entry to FAULTED or the end of a drain. -/
def Position.cancelled (e : Position) : Position := if e.state = .binding then Position.empty else { e with stale := false }

theorem Position.cancelled_cancelled (e : Position) : e.cancelled.cancelled = e.cancelled := by
  by_cases h : e.state = .binding
  · have empty : e.cancelled = Position.empty := if_pos h
    rw [empty]; rfl
  · have fresh : e.cancelled = { e with stale := false } := if_neg h
    rw [fresh]; exact if_neg h

theorem cancelBinding_wall (q : PutPos) (s : State) :
    (cancelBinding q s).wall = (setPosition q (s.position q).cancelled s).wall := by
  unfold cancelBinding Position.cancelled
  split
  · simp [failBinding]
  · rfl

theorem cancelBinding_position (q r : PutPos) (s : State) :
    (cancelBinding q s).position r = if q = r then (s.position r).cancelled else s.position r := by
  have same : (cancelBinding q s).position r = (setPosition q (s.position q).cancelled s).position r := by
    unfold State.position; rw [cancelBinding_wall]; rfl
  rw [same]
  split
  next h => subst h; simp
  next h => exact setPosition_position_ne h _ s

/-- Each position on the list is cancelled, the others stay. -/
theorem cancelBinding_foldl_position (r : PutPos) (l : List PutPos) : ∀ s : State,
    (l.foldl (fun t q => cancelBinding q t) s).position r = if r ∈ l then (s.position r).cancelled else s.position r := by
  induction l with
  | nil => exact fun s => rfl
  | cons q l ih =>
    intro s
    rw [List.foldl_cons, ih, cancelBinding_position]
    by_cases h : q = r
    · subst h
      simp [Position.cancelled_cancelled]
    · simp [h, Ne.symm h]

theorem cancelBindings_position (q : PutPos) (s : State) : (cancelBindings s).position q = (s.position q).cancelled := by
  have every : q ∈ allPositions := List.mem_finRange q
  rw [cancelBindings, cancelBinding_foldl_position, if_pos every]

/-- What the entry to FAULTED clears and what it leaves (R191). -/
theorem enterFaulted_changes (s : State) : ∃ n ev g w wall blc k, enterFaulted s = { s with
      pau := { s.pau with
        runState := .faulted, drainDue := false, sweep := none, sweepTimer := none, editionDue := false, writeSeq := n }
      bus := { (discardReads s).bus with posted := s.bus.posted ++ w }
      ttu := { s.ttu with misses := [], inFlight := none }
      cdm := { s.cdm with chains := s.cdm.chains.map (fun c => { c with takeInFlight := false }) }
      wall := wall
      glc := { s.glc with link := { s.glc.link with queue := [] } }
      blc := blc
      ntu := { s.ntu with events := ev, signals := g, counters := k } }
    ∧ ∀ q : PutPos, wall[q] = (s.position q).cancelled := by
  unfold enterFaulted
  have positions := fun q => cancelBindings_position q (clearTakeMarks (emptyMisses (discardReads (abandonSweep
    (setPau { s.pau with drainDue := false } s)))))
  have cancelled := bindings_cancelBindings (clearTakeMarks (emptyMisses (discardReads (abandonSweep
    (setPau { s.pau with drainDue := false } s)))))
  generalize cancelBindings _ = t at positions cancelled ⊢
  have panels := (panelResets_only (clearGridQueue t)).rest
  generalize panelResets _ = u at panels ⊢
  obtain ⟨n, ev, g, w, h⟩ := setRunState_changes .faulted u
  refine ⟨n, ev, g, w, t.wall, u.blc, u.ntu.counters, ?_, positions⟩
  rw [h]
  generalize u.blc = blc, u.ntu.counters = k at panels
  subst panels
  unfold BindingsOnly at cancelled
  generalize t.wall = wall, t.blc = blc', t.ntu.counters = k' at cancelled ⊢
  subst cancelled
  rfl

/-- R185: an armed capture takes the report whole. -/
theorem report_armed (r : Report) {s : State} (armed : s.ntu.events.getLsbD 3 = false) :
    (report r s).ntu.capture = r.capture (Config.absentTag s.freeCount) s.clock := by
  have isArmed : s.armed = true := by simp only [State.armed, Event.index, armed, Bool.not_false]
  rw [report, if_pos isArmed, raise_capture]

theorem busError_eq {s : State} {id : Nat} {r : Read} (found : s.findRead id = some r) (live : r.discarded = false)
    (faultable : s.pau.runState.faultable = true) :
    busError id s = enterFaulted (startingError (report r.purpose.busReport (endRead id s))) := by
  simp [busError, found, live, faultable]

/-- R189: error code 0 in STARTING is all that a bus error adds before the entry to FAULTED. -/
theorem startingError_changes (s : State) : ∃ code, startingError s = setPau { s.pau with errorCode := code } s := by
  unfold startingError
  split
  · exact ⟨0, rfl⟩
  · exact ⟨s.pau.errorCode, rfl⟩

theorem faultable_of_running {s : State} (h : s.pau.runState = .starting ∨ s.active = true) :
    s.pau.runState.faultable = true := by
  rcases h with starting | active
  · rw [starting]; rfl
  · unfold State.active at active
    revert active
    cases s.pau.runState <;> simp [RunState.active, RunState.faultable]

/-- Settles O16. -/
theorem busErrorFaultsThePart : Obligations.BusErrorFaultsThePart := by
  intro s id r found live running
  refine ⟨rfl, busError id s, rfl, ?_⟩
  obtain ⟨code, starting⟩ := startingError_changes (report r.purpose.busReport (endRead id s))
  rw [busError_eq found live (faultable_of_running running), starting]
  have positions : ∀ q, (report r.purpose.busReport (endRead id s)).position q = s.position q := fun q => by
    simp [State.position]
  obtain ⟨n, ev, g, w, wall, blc, k, fault, cancelled⟩ := enterFaulted_changes
    (setPau { (report r.purpose.busReport (endRead id s)).pau with errorCode := code }
      (report r.purpose.busReport (endRead id s)))
  rw [fault]
  refine ⟨rfl, rfl, rfl, rfl, by simp, discardReads_discarded _, by simp, fun q => ?_, by simp, by simp, by simp, by simp,
    fun armed => ?_⟩
  · exact (cancelled q).trans (congrArg Position.cancelled (positions q))
  · have capture := report_armed r.purpose.busReport (s := endRead id s) armed
    simp only [setPau_ntu, capture]
    have kind : r.purpose.busReport.kind = .busError := by unfold ReadFor.busReport; split <;> rfl
    exact ⟨congrArg some kind, rfl, rfl, rfl⟩

end Sys2Proof.Machine
end

section
/-! SUPPORT. Stages 4 to 6 of a sweep and the flags they read (O20). -/

namespace Sys2Proof.Machine

/-! ### Reads asked for one after the other -/

/-- R5: what asking for a list of reads adds: one after the other, under the numbers that follow the last one given. -/
def withReads (rs : List (ReadFor × Nat × Nat)) (s : State) : State :=
  { s with bus := { s.bus with
      reads := s.bus.reads ++ rs.zipIdx.map (fun x =>
        { id := s.bus.nextRead + x.2, purpose := x.1.1, addr := x.1.2.1, len := x.1.2.2, discarded := false })
      nextRead := s.bus.nextRead + rs.length } }

theorem withReads_nil (s : State) : withReads [] s = s := by simp [withReads]

theorem withReads_cons (r : ReadFor × Nat × Nat) (rs : List (ReadFor × Nat × Nat)) (s : State) :
    withReads (r :: rs) s = withReads rs (issueRead r.1 r.2.1 r.2.2 s) := by
  simp only [withReads, issueRead, List.zipIdx_cons, List.map_cons, List.append_assoc, List.singleton_append,
    List.length_cons, Nat.add_zero, Nat.zero_add, List.zipIdx_succ, List.map_map]
  simp [Function.comp_def, Nat.add_assoc, Nat.add_comm 1]

/-- A stage that has just asked for reads of its own is reading. -/
theorem stageReading_withReads {rs : List (ReadFor × Nat × Nat)} {g : SweepStage} (s : State) (some_read : rs ≠ [])
    (stage : ∀ r ∈ rs, r.1.stage = some g) : (withReads rs s).stageReading g = true := by
  obtain ⟨r, rest, rfl⟩ := List.exists_cons_of_ne_nil some_read
  have asked : ({ id := s.bus.nextRead, purpose := r.1, addr := r.2.1, len := r.2.2, discarded := false } : Read)
      ∈ (withReads (r :: rest) s).bus.reads := by simp [withReads]
  exact stageReading_of_mem asked rfl (stage r List.mem_cons_self)

/-! ### Stage 4 -/

/-- The read of a held card's flags (R16). -/
def cardFlagsRead (s : State) (c : CardCtx) : ReadFor × Nat × Nat := (.cardFlags c.card c.seq, s.cardAddr c.card + 1, 1)

theorem issue_cardFlags (cs : List CardCtx) : ∀ s : State,
    cs.foldl (fun u c => issueRead (.cardFlags c.card c.seq) (u.cardAddr c.card + 0x01) 1 u) s =
      withReads (cs.map (cardFlagsRead s)) s := by
  induction cs with
  | nil => exact fun s => (withReads_nil s).symm
  | cons c cs ih =>
    intro s
    rw [List.foldl_cons, ih, List.map_cons, withReads_cons]
    rfl

theorem stage4_reads {s : State} (held : s.held ≠ []) :
    stage4 s = enterStage .cardFlags (withReads (s.held.map (cardFlagsRead s)) s) := by
  have reading : (withReads (s.held.map (cardFlagsRead s)) s).stageReading .cardFlags = true := by
    refine stageReading_withReads s (by simpa using held) fun r mem => ?_
    obtain ⟨c, -, rfl⟩ := List.mem_map.mp mem
    rfl
  simp only [stage4, issue_cardFlags, reading, if_true]

theorem stage4_passes {s : State} (held : s.held = []) (idle : s.stageReading .cardFlags = false) :
    stage4 s = stage5 s := by
  simp [stage4, held, idle]

/-! ### Stage 5 -/

/-- The order record of a position whose flags stage 5 reads (R16): written BOUND and not yet CLOSED. -/
def State.openOrder (s : State) (q : PutPos) : Option (PutPos × Nat) :=
  if (s.position q).state.holds then (s.position q).order.map (fun j => (q, j)) else none

def orderFlagsRead (s : State) (x : PutPos × Nat) : ReadFor × Nat × Nat :=
  (.orderFlags x.1 x.2 true, s.orderAddr x.2 + 1, 1)

theorem readOrderFlags_eq (q : PutPos) (s : State) : readOrderFlags q s =
    match s.openOrder q with
    | some x => issueRead (orderFlagsRead s x).1 (orderFlagsRead s x).2.1 (orderFlagsRead s x).2.2 s
    | none => s := by
  unfold readOrderFlags State.openOrder
  cases (s.position q).order <;> cases (s.position q).state.holds <;> rfl

theorem issue_orderFlags (qs : List PutPos) : ∀ s : State,
    qs.foldl (fun u q => readOrderFlags q u) s = withReads ((qs.filterMap s.openOrder).map (orderFlagsRead s)) s := by
  induction qs with
  | nil => exact fun s => (withReads_nil s).symm
  | cons q qs ih =>
    intro s
    rw [List.foldl_cons, ih, readOrderFlags_eq]
    cases h : s.openOrder q with
    | none => simp only [List.filterMap_cons_none h]
    | some x =>
      rw [List.filterMap_cons_some h, List.map_cons, withReads_cons]
      rfl

theorem stage5_reads {s : State} (orders : allPositions.filterMap s.openOrder ≠ []) : stage5 s =
    enterStage .orderFlags (withReads ((allPositions.filterMap s.openOrder).map (orderFlagsRead s)) s) := by
  have reading : (withReads ((allPositions.filterMap s.openOrder).map (orderFlagsRead s)) s).stageReading .orderFlags
      = true := by
    refine stageReading_withReads s (by simpa using orders) fun r mem => ?_
    obtain ⟨x, -, rfl⟩ := List.mem_map.mp mem
    rfl
  simp only [stage5, issue_orderFlags, reading, if_true]

theorem stage5_passes {s : State} (orders : allPositions.filterMap s.openOrder = [])
    (idle : s.stageReading .orderFlags = false) : stage5 s = stage6 s := by
  simp [stage5, issue_orderFlags, orders, withReads_nil, idle]

/-! ### What the flags do -/

/-- R47: the card of a taking that stands in a staging list. -/
theorem withdrawTaking_staged {s : State} {card : Nat} {seq : Word} {c : CardCtx} (taken : s.taking card seq = some c)
    (fresh : c.withdrawn = false) (staged : (s.staged c.bench).any (fun x => x.named card seq) = true) :
    withdrawTaking card seq s = finishStaged .withdrawn .withdrawn { c with withdrawn := true }
      (updateTaking card seq (fun x => { x with withdrawn := true }) s) := by
  simp only [withdrawTaking, taken, fresh, staged, Bool.false_eq_true, if_false, if_true]

/-- R48, R49: the card of a taking that stands in a call or a lane. -/
theorem withdrawTaking_called {s : State} {card : Nat} {seq : Word} {c : CardCtx} (taken : s.taking card seq = some c)
    (fresh : c.withdrawn = false) (staged : (s.staged c.bench).any (fun x => x.named card seq) = false) :
    withdrawTaking card seq s = allPorts.foldl (fun u p => withdrawHead card seq p u)
      (cancelCalls .withdrawal (fun x => x.card.named card seq)
        (updateTaking card seq (fun x => { x with withdrawn := true }) s)) := by
  simp only [withdrawTaking, taken, fresh, staged, Bool.false_eq_true, if_false]

/-- R47: a card no longer held under the taking, or withdrawn already, is left as it is. -/
theorem withdrawTaking_none {s : State} {card : Nat} {seq : Word}
    (gone : s.taking card seq = none ∨ ∃ c, s.taking card seq = some c ∧ c.withdrawn = true) :
    withdrawTaking card seq s = s := by
  rcases gone with none_taken | ⟨c, taken, withdrawn⟩
  · simp only [withdrawTaking, none_taken]
  · simp only [withdrawTaking, taken, withdrawn, if_true]

theorem cancelCall_taken {x : Call} (state : x.state = .called ∨ x.state = .accepted) (why : CancelReason) (u : State) :
    cancelCall why x u = gridHand (.callCancel x.number) (putCall { x with
      state := .cancelling, cancel := some (x.cancel.getD why), inquiries := 1, timer := inquiryTimer } u) := if_pos state

theorem cancelCall_other {x : Call} (notCalled : x.state ≠ .called) (notAccepted : x.state ≠ .accepted)
    (why : CancelReason) (u : State) : cancelCall why x u = u :=
  if_neg (fun state => state.elim notCalled notAccepted)

theorem headCard_of {u : State} {p : Port} {e : Entry} {c : CardCtx} (head : u.head p = some e) (card : e.card = some c) :
    u.headCard p = some (e, c) := by simp [State.headCard, head, card]

theorem withdrawHead_taken {u : State} {p : Port} {e : Entry} {c : CardCtx} {card : Nat} {seq : Word}
    (head : u.headCard p = some (e, c)) (named : c.named card seq = true)
    (state : e.state = .presenting ∨ e.state = .waitingBench) :
    withdrawHead card seq p u = endWith p .withdrawn .withdrawn false u := by
  simp only [withdrawHead, head]
  exact if_pos ⟨named, state⟩

theorem withdrawHead_other {u : State} {p : Port} {e : Entry} {c : CardCtx} {card : Nat} {seq : Word}
    (head : u.headCard p = some (e, c)) (notPresenting : e.state ≠ .presenting) (notWaiting : e.state ≠ .waitingBench) :
    withdrawHead card seq p u = u := by
  simp only [withdrawHead, head]
  exact if_neg (fun ⟨_, state⟩ => state.elim notPresenting notWaiting)

/-- R65: order flags that change nothing. -/
theorem orderFlagsReturned_none {s : State} {q : PutPos} {held : Bool} {flags : Byte}
    (h : flags.getLsbD 0 = false ∨ held = false ∨ (s.position q).state ≠ .bound) :
    orderFlagsReturned q held flags s = s := by
  unfold orderFlagsReturned closeRequested
  rcases h with flag | ended | state
  · simp only [flag, Bool.and_false, Bool.false_eq_true, if_false]
  · simp only [ended, Bool.false_and, Bool.false_eq_true, if_false]
  · simp only [state, if_false, ite_self]

/-- The stage that follows when every read of a stage has ended (R11, R15, R16). -/
def stageAfter (g : SweepStage) (s : State) : State :=
  match g with
  | .stamp => stage3 (flush s)
  | .liveSettings => stage3 (flush s)
  | .starved => stage4 s
  | .cardFlags => stage5 s
  | .orderFlags => stage6 s

theorem advanceSweep_next {s : State} {w : Sweep} (sweeping : s.pau.sweep = some w)
    (idle : s.stageReading w.stage = false) : advanceSweep s = stageAfter w.stage s := by
  obtain ⟨kind, stage⟩ := w
  unfold advanceSweep
  rw [sweeping]
  cases stage <;> exact if_neg (by simpa using idle)

/-- Settles O20. -/
theorem sweepFlagReads : Obligations.SweepFlagReads := by
  intro s id flags card seq q j held t marked orders
  refine ⟨fun reading => ⟨fun c flag taken fresh => ⟨fun staged => ?_, fun staged => ?_⟩, fun idle => ?_⟩,
    fun x u => ⟨fun state => cancelCall_taken state _ u, fun called accepted => cancelCall_other called accepted _ u⟩,
    fun p e c u head hc named => ⟨fun state => withdrawHead_taken (headCard_of head hc) named state,
      fun presenting waiting => withdrawHead_other (headCard_of head hc) presenting waiting⟩,
    fun reading => ⟨fun flag same bound => ?_, fun idle => ?_⟩,
    fun some_held => ?_, stage4_passes, fun some_order => ?_, stage5_passes, fun w sweeping idle => ?_,
    fun w => advanceSweep_reading, fun v g sweeping => ?_, fun g sweeping => ?_⟩
  · rw [exec_cardFlagsReadReturn flags reading, cardFlagsReturned, if_pos flag,
      withdrawTaking_staged (s := endRead id s) taken fresh staged]
  · rw [exec_cardFlagsReadReturn flags reading, cardFlagsReturned, if_pos flag,
      withdrawTaking_called (s := endRead id s) taken fresh staged]
    rfl
  · rw [exec_cardFlagsReadReturn flags reading]
    rcases idle with flag | gone
    · simp only [cardFlagsReturned, flag, Bool.false_eq_true, if_false]
      rfl
    · simp only [cardFlagsReturned, withdrawTaking_none (s := endRead id s) gone, ite_self]
      rfl
  · have stops : orderFlagsReturned q held flags t =
        stopAccepting q .closing (benchHand (posBench q) (.closeCue (posIndex q)) t) := by
      simp only [orderFlagsReturned, flag, same, Bool.and_self, if_true]
      exact if_pos bound
    rw [exec_orderFlagsReadReturn flags reading, stops]
  · rw [exec_orderFlagsReadReturn flags reading, orderFlagsReturned_none (s := endRead id s) idle]
  · rw [stage4_reads some_held]
    simp [enterStage, setSweep, setPau, withReads, cardFlagsRead, List.zipIdx_map]
  · have asked : allPositions.filterMap s.openOrder = orders := rfl
    rw [stage5_reads some_order, asked]
    simp [enterStage, setSweep, setPau, withReads, orderFlagsRead, List.zipIdx_map]
  · rw [advanceSweep_next sweeping idle]
    cases w.stage <;> rfl
  · simp only [stage6, sweeping]
    rfl
  · simp only [stage6, sweeping]

end Sys2Proof.Machine
end

section
/-! SUPPORT. The Tag Translation Unit: O23 and O24. -/

namespace Sys2Proof.Machine

variable {s : State}

/-! ### An answer leaves the lookups -/

@[simp] theorem failBinding_ttu (q : PutPos) (r : Reason) (s : State) : (failBinding q r s).ttu = s.ttu := by
  simp [failBinding]

@[simp] theorem bindingAnswered_ttu (q : PutPos) (a : LookupAnswer) (s : State) : (bindingAnswered q a s).ttu = s.ttu := by
  simp only [bindingAnswered]
  split
  case isTrue => rfl
  case isFalse =>
    split
    case isFalse => rfl
    case isTrue =>
      split
      next => exact failBinding_ttu q _ s
      next =>
        split
        · exact failBinding_ttu q _ s
        · rfl
      next => exact failBinding_ttu q _ s

/-- R22: the block that takes an answer asks nothing of the Tag Translation Unit meanwhile. -/
@[simp] theorem deliver_ttu (asker : Asker) (tag : Word) (a : LookupAnswer) (s : State) :
    (deliver asker tag a s).ttu = s.ttu := by
  cases asker with
  | place q => exact bindingAnswered_ttu q a s
  | arrival p => exact report_ttu _ s

theorem deliver_foldl_ttu (meaning : Translation) (waiters : List Lookup) : ∀ s : State,
    (waiters.foldl (fun u l => deliver l.asker l.tag (.entry meaning) u) s).ttu = s.ttu := by
  induction waiters with
  | nil => exact fun _ => rfl
  | cons l rest ih => exact fun s => (ih _).trans (deliver_ttu _ _ _ s)

/-! ### The next read (R26) -/

theorem startMiss_flying {m : MissRead} (flying : s.ttu.inFlight = some m) : startMiss s = s := by
  simp [startMiss, flying]

theorem startMiss_nobody (idle : s.ttu.inFlight = none) (nobody : s.ttu.misses = []) : startMiss s = s := by
  simp [startMiss, idle, nobody]

theorem startMiss_oldest {l : Lookup} {rest : List Lookup} (idle : s.ttu.inFlight = none) (waits : s.ttu.misses = l :: rest) :
    startMiss s = issueRead (.tagEntry l.tag) (s.tagAddr l.tag) 4
      (setTtu { s.ttu with inFlight := some { tag := l.tag, stale := false } } s) := by
  simp [startMiss, idle, waits]

theorem startMiss_ttu (idle : s.ttu.inFlight = none) : (startMiss s).ttu =
    { s.ttu with inFlight := s.ttu.misses.head?.map (fun l => { tag := l.tag, stale := false }) } := by
  cases waits : s.ttu.misses with
  | nil => rw [startMiss_nobody idle waits, List.head?_nil, Option.map_none, ← idle]
  | cons l rest => rw [startMiss_oldest idle waits]; rfl

/-! ### Lookups (R21, R24, R25) -/

theorem inWindow_iff (st : Structural) (tag : Word) :
    st.inWindow tag = true ↔ st.tagBase ≤ tag.toNat ∧ tag.toNat < st.tagBase + 2 ^ st.tagExp := by
  simp [Structural.inWindow]

theorem cached_none_iff {tag : Word} : s.cached tag = none ↔ ∀ e ∈ s.ttu.cache, e.tag ≠ tag := by
  simp [State.cached]

theorem lookup_inactive {tag : Word} {asker : Asker} (off : s.active = false) :
    lookup tag asker s = deliver asker tag .busy s := by
  simp [lookup, off]

theorem lookup_foreign {tag : Word} {asker : Asker} (on : s.active = true) (outside : s.st.inWindow tag = false) :
    lookup tag asker s = deliver asker tag .foreign s := by
  simp [lookup, on, outside]

theorem lookup_hit {tag : Word} {asker : Asker} {e : CacheEntry} (on : s.active = true)
    (inside : s.st.inWindow tag = true) (hit : s.cached tag = some e) : lookup tag asker s =
      deliver asker tag (.entry e.meaning) (setTtu { s.ttu with cache := touch e s.ttu.cache } s) := by
  simp [lookup, on, inside, hit]

theorem lookup_miss {tag : Word} {asker : Asker} (on : s.active = true) (inside : s.st.inWindow tag = true)
    (miss : s.cached tag = none) : lookup tag asker s = if s.ttu.misses.length < Config.missEntries then
      startMiss (setTtu { s.ttu with misses := s.ttu.misses ++ [{ tag := tag, asker := asker, before := false }] } s)
      else deliver asker tag .busy s := by
  simp [lookup, on, inside, miss]

/-! ### Flushes (R30) -/

theorem flush_idle (idle : s.ttu.inFlight = none) : flush s = setTtu { s.ttu with cache := [] } s := by
  simp [flush, idle]

theorem flush_flying {m : MissRead} (flying : s.ttu.inFlight = some m) : flush s = setTtu
    { cache := [], misses := s.ttu.misses.map (fun l => { l with before := true }),
      inFlight := some { m with stale := true } } s := by
  simp [flush, flying]

/-! ### A table read returned (R28, R29) -/

/-- The lookups once a read has returned and its waiters are answered, before the next read begins. -/
def Ttu.returned (m : MissRead) (meaning : Translation) (t : Ttu) : Ttu :=
  { cache := if m.stale then t.cache else install m.tag meaning t.cache
    misses := t.misses.filter (fun l => !l.answeredBy m)
    inFlight := none }

theorem translationReturned_eq (m : MissRead) (entry : Word) (s : State) : translationReturned m entry s =
    startMiss ((s.ttu.misses.filter (fun l => l.answeredBy m)).foldl
      (fun u l => deliver l.asker l.tag (.entry (translationOf s.st entry)) u)
      (setTtu (s.ttu.returned m (translationOf s.st entry)) s)) := rfl

theorem translationReturned_ttu (m : MissRead) (entry : Word) (s : State) : (translationReturned m entry s).ttu =
    { s.ttu.returned m (translationOf s.st entry) with
      inFlight := (s.ttu.returned m (translationOf s.st entry)).misses.head?.map
        (fun l => { tag := l.tag, stale := false }) } := by
  have answered := deliver_foldl_ttu (translationOf s.st entry) (s.ttu.misses.filter (fun l => l.answeredBy m))
    (setTtu (s.ttu.returned m (translationOf s.st entry)) s)
  rw [setTtu_self] at answered
  rw [translationReturned_eq, startMiss_ttu (congrArg Ttu.inFlight answered), answered]

theorem exec_tagTableReadReturn {id : Nat} {tag : Word} {m : MissRead} (entry : Word) (reading : s.reading id (.tagEntry tag))
    (flying : s.ttu.inFlight = some m) :
    exec (.tagTableReadReturn id entry) s = .next (settle (translationReturned m entry (endRead id s))) := by
  have taken : tagReturned entry (endRead id s) = translationReturned m entry (endRead id s) := by
    simp [tagReturned, flying]
  rw [← taken]
  exact congrArg Host.Outcome.next (withRead_reading (a := ()) reading rfl)

/-- With nobody waiting, a table read that returns changes the cache at most. -/
theorem translationReturned_nobody (m : MissRead) (entry : Word) (nobody : s.ttu.misses = []) :
    translationReturned m entry s = setTtu (s.ttu.returned m (translationOf s.st entry)) s := by
  have left : (s.ttu.returned m (translationOf s.st entry)).misses = [] := by simp [Ttu.returned, nobody]
  rw [translationReturned_eq, nobody]
  exact startMiss_nobody rfl left

/-- R28, R29: the one waiter of a fresh read gets the translation that the cache then holds, and nothing is left to read. -/
theorem translationReturned_one {m : MissRead} {l : Lookup} (entry : Word) (fresh : m.stale = false)
    (one : s.ttu.misses = [l]) (same : l.tag = m.tag) : translationReturned m entry s =
      deliver l.asker l.tag (.entry (translationOf s.st entry)) (setTtu
        { cache := install m.tag (translationOf s.st entry) s.ttu.cache, misses := [], inFlight := none } s) := by
  have answered : l.answeredBy m = true := by simp [Lookup.answeredBy, same, fresh]
  have waiters : s.ttu.misses.filter (fun l => l.answeredBy m) = [l] := by simp [one, answered]
  have returned : s.ttu.returned m (translationOf s.st entry) =
      { cache := install m.tag (translationOf s.st entry) s.ttu.cache, misses := [], inFlight := none } := by
    simp [Ttu.returned, one, answered, fresh]
  rw [translationReturned_eq, waiters, returned]
  exact startMiss_nobody (by simp) (by simp)

/-- Settles O23: the read's return, then a lookup along its tests in order (run state, window, cache, room). -/
theorem tagTableReadAnswersItsWaiters : Obligations.TagTableReadAnswersItsWaiters := by
  refine ⟨?_, fun s tag asker => ⟨lookup_inactive, fun on outside => ?_, fun on inside => ?_, flush_idle,
    fun m => flush_flying, rfl⟩⟩
  · intro s id tag m entry reading flying answered left
    have lookups := translationReturned_ttu m entry (endRead id s)
    refine ⟨translationReturned m entry (endRead id s), exec_tagTableReadReturn entry reading flying, lookups, ?_⟩
    rw [lookups]
    exact translationReturned_eq m entry (endRead id s)
  · exact lookup_foreign on (by simpa using mt (inWindow_iff s.st tag).mp outside)
  · have within : s.st.inWindow tag = true := (inWindow_iff s.st tag).mpr inside
    refine ⟨fun e hit => lookup_hit on within hit, fun absent => ?_⟩
    have miss := lookup_miss (asker := asker) on within (cached_none_iff.mpr absent)
    refine ⟨fun full => ?_, fun m room flying => ?_, fun nobody idle => ?_⟩
    · exact miss.trans (if_neg (Nat.not_lt.mpr full))
    · exact miss.trans ((if_pos room).trans (startMiss_flying flying))
    · have room : s.ttu.misses.length < Config.missEntries := by simp [nobody, Config.missEntries]
      have first : s.ttu.misses ++ [{ tag := tag, asker := asker, before := false }]
          = [{ tag := tag, asker := asker, before := false }] := by rw [nobody, List.nil_append]
      rw [miss, if_pos room]
      refine startMiss_oldest (l := { tag := tag, asker := asker, before := false }) (rest := []) ?_ ?_
      · exact idle
      · exact first

/-! ### What a table entry means (R27) -/

/-- R27: only the entry's index and kind have a say in its translation. -/
theorem translationOf_congr (st : Structural) {e f : Word} (same : e.toNat % 2 ^ 24 = f.toNat % 2 ^ 24) :
    translationOf st e = translationOf st f := by
  have index : e.toNat % 65536 = f.toNat % 65536 := by omega
  have kind : e.toNat / 65536 % 256 = f.toNat / 65536 % 256 := by omega
  simp only [translationOf, index, kind]

theorem translationOf_card (st : Structural) {e : Word} (kind : e.toNat / 65536 % 256 = 1) :
    translationOf st e = if e.toNat % 65536 < st.cardCount then .card (e.toNat % 65536) else .none := by
  simp [translationOf, kind]

theorem translationOf_order (st : Structural) {e : Word} (kind : e.toNat / 65536 % 256 = 2) :
    translationOf st e = if e.toNat % 65536 < st.orderCount then .order (e.toNat % 65536) else .none := by
  simp [translationOf, kind]

theorem translationOf_barred (st : Structural) {e : Word} (kind : e.toNat / 65536 % 256 = 3) :
    translationOf st e = .barred := by
  simp [translationOf, kind]

/-- The kind NONE and every kind code that Table 1-11 does not name. -/
theorem translationOf_none (st : Structural) {e : Word} (kind : e.toNat / 65536 % 256 = 0 ∨ 4 ≤ e.toNat / 65536 % 256) :
    translationOf st e = .none := by
  unfold translationOf
  split
  case h_4 => rfl
  all_goals omega

/-- Settles O24: the kinds of an entry one by one, then the two ends of a fresh read, its waiters and the cache. -/
theorem translationOfATableEntry : Obligations.TranslationOfATableEntry := by
  intro st e f kind index
  refine ⟨fun k => translationOf_none st (.inl k), translationOf_barred st,
    fun k known => (translationOf_card st k).trans (if_pos known),
    fun k beyond => (translationOf_card st k).trans (if_neg (Nat.not_lt.mpr beyond)),
    fun k known => (translationOf_order st k).trans (if_pos known),
    fun k beyond => (translationOf_order st k).trans (if_neg (Nat.not_lt.mpr beyond)),
    fun k => translationOf_none st (.inr k), translationOf_congr st,
    fun s m fresh => ⟨?_, fun l one same => translationReturned_one e fresh one same, fun nobody => ?_⟩⟩
  · simp [translationReturned_ttu, Ttu.returned, fresh, install]
  · rw [translationReturned_nobody m e nobody, setTtu_ntu]

end Sys2Proof.Machine
end

section
/-! SUPPORT. Units accounted for (O59): lines and cards, the three places where a card is held, and the updates that
touch a held card. An update of another part of the state keeps `State.unitsAccounted` by definition. -/

namespace Sys2Proof.Machine

variable {s : State}

/-! ### Lines (R43, R52, R102) -/

theorem Line.accounted_resolve {l : Line} (r : LineResult) (h : l.accounted) : (l.resolve r).accounted := by
  obtain ⟨sum, -⟩ := h
  refine ⟨?_, fun _ => rfl⟩
  simp only [Line.resolve]
  omega

theorem Line.accounted_fresh (slot : Nat × Nat) : (Line.fresh slot).accounted := by
  simp [Line.accounted, Line.fresh]

/-- R102: a pick moves units from remaining to picked, and a line that a pick completes has none left. -/
theorem Line.accounted_pick {l : Line} (qty : Nat) (h : l.accounted) : (l.pick qty).accounted := by
  obtain ⟨sum, done⟩ := h
  refine ⟨?_, fun resolved => ?_⟩
  · simp only [Line.pick]
    omega
  · simp only [Line.pick] at resolved ⊢
    by_cases left : l.remaining - qty = 0
    · exact left
    · rw [if_neg left] at resolved
      rw [done resolved, Nat.zero_sub]

theorem accounted_questionLine (benches : List Bench) {l : Line} (h : l.accounted) :
    (s.questionLine benches l).accounted := by
  unfold State.questionLine
  split
  · exact Line.accounted_resolve _ h
  · exact Line.accounted_resolve _ h
  · split
    · exact h
    · exact h
    · exact Line.accounted_resolve (l := { l with pos := some _ }) _ h

/-! ### Cards -/

theorem CardCtx.accounted_map {c : CardCtx} {f : Line → Line} (hf : ∀ l : Line, l.accounted → (f l).accounted)
    (h : c.accounted) : ({ c with lines := c.lines.map f } : CardCtx).accounted := by
  intro l mem
  obtain ⟨k, hk, rfl⟩ := List.mem_map.mp mem
  exact hf k (h k hk)

/-- R52 speaks of a card's lines alone. -/
theorem CardCtx.accounted_of_lines {c d : CardCtx} (same : d.lines = c.lines) (h : c.accounted) : d.accounted := by
  intro l mem
  rw [same] at mem
  exact h l mem

/-- Some lines of a card changed by a function that accounts for their units. -/
theorem CardCtx.accounted_mapIf {c : CardCtx} {f : Line → Line} (p : Line → Bool)
    (hf : ∀ l : Line, l.accounted → (f l).accounted) (h : c.accounted) :
    ({ c with lines := c.lines.map (fun l => if p l then f l else l) } : CardCtx).accounted := by
  refine CardCtx.accounted_map (fun l hl => ?_) h
  split
  · exact hf l hl
  · exact hl

theorem CardCtx.accounted_resolveLines {c : CardCtx} (sel : Line → Bool) (r : LineResult) (h : c.accounted) :
    (c.resolveLines sel r).accounted :=
  CardCtx.accounted_mapIf (fun l => l.unresolved && sel l) (fun _ => Line.accounted_resolve r) h

/-- R43: the card of an accepted take. -/
theorem CardBytes.accounted_context (card : Nat) (seq : Word) (b : Bench) (cls : CardClass) (now : Word) (k : CardBytes) :
    (k.context card seq b cls now).accounted := by
  intro l mem
  obtain ⟨slot, -, rfl⟩ := List.mem_map.mp mem
  exact Line.accounted_fresh slot

/-! ### The three places of a held card (R33, R34) -/

/-- The card of a lane entry, if it has one. -/
def Entry.accounted (e : Entry) : Prop := ∀ c, e.card = some c → c.accounted

theorem Entry.accounted_state {e : Entry} (st : EntryState) (h : e.accounted) :
    ({ e with state := st } : Entry).accounted := h

theorem Entry.accounted_some {e : Entry} {c : CardCtx} (st : EntryState) (h : c.accounted) :
    ({ e with card := some c, state := st } : Entry).accounted := fun _ same => by cases same; exact h

theorem unitsAccounted_iff : s.unitsAccounted ↔
    (∀ b : Bench, ∀ c ∈ s.staged b, c.accounted) ∧ (∀ x ∈ s.lnc.calls, x.card.accounted)
      ∧ ∀ p : Port, ∀ e ∈ s.lane p, e.accounted := by
  have bench : ∀ b : Bench, b ∈ allBenches := by decide
  have port : ∀ p : Port, p ∈ allPorts := by decide
  simp only [State.unitsAccounted, State.held, State.laneCards, List.forall_mem_append, List.forall_mem_map,
    List.forall_mem_flatMap, List.mem_filterMap, Entry.accounted, bench, port, true_imp_iff, and_assoc]
  refine and_congr_right fun _ => and_congr_right fun _ => forall_congr' fun p => ?_
  exact ⟨fun h e mem c same => h c ⟨e, mem, same⟩, fun h c ⟨e, mem, same⟩ => h e mem c same⟩

theorem accounted_staged {b : Bench} {c : CardCtx} (h : s.unitsAccounted) (mem : c ∈ s.staged b) : c.accounted := by
  obtain ⟨staged, -, -⟩ := unitsAccounted_iff.mp h
  exact staged b c mem

theorem accounted_call {x : Call} (h : s.unitsAccounted) (mem : x ∈ s.lnc.calls) : x.card.accounted := by
  obtain ⟨-, calls, -⟩ := unitsAccounted_iff.mp h
  exact calls x mem

theorem accounted_entry {p : Port} {e : Entry} (h : s.unitsAccounted) (mem : e ∈ s.lane p) : e.accounted := by
  obtain ⟨-, -, lanes⟩ := unitsAccounted_iff.mp h
  exact lanes p e mem

theorem accounted_findCall {n : Nat} {x : Call} (h : s.unitsAccounted) (found : s.findCall n = some x) :
    x.card.accounted := accounted_call h (List.mem_of_find?_eq_some found)

theorem accounted_head {p : Port} {e : Entry} (h : s.unitsAccounted) (found : s.head p = some e) : e.accounted :=
  accounted_entry h (List.mem_of_mem_head? found)

theorem headCard_eq_some {p : Port} {e : Entry} {c : CardCtx} (found : s.headCard p = some (e, c)) :
    s.head p = some e ∧ e.card = some c := by
  unfold State.headCard at found
  split at found
  next d head =>
    obtain ⟨k, card, same⟩ := Option.map_eq_some_iff.mp found
    cases same
    exact ⟨head, card⟩
  · exact absurd found (by simp)

theorem accounted_headEntry {p : Port} {e : Entry} {c : CardCtx} (h : s.unitsAccounted)
    (found : s.headCard p = some (e, c)) : e.accounted := by
  obtain ⟨head, -⟩ := headCard_eq_some found
  exact accounted_head h head

theorem accounted_headCard {p : Port} {e : Entry} {c : CardCtx} (h : s.unitsAccounted)
    (found : s.headCard p = some (e, c)) : c.accounted := by
  obtain ⟨-, card⟩ := headCard_eq_some found
  exact accounted_headEntry h found c card

/-! ### The updates that touch a held card -/

/-- An operation that leaves the Card Manager and the lanes and calls as they were. -/
theorem accounted_of_eq {t : State} (cards : t.cdm = s.cdm) (lanes : t.lnc = s.lnc) (h : s.unitsAccounted) :
    t.unitsAccounted := by
  obtain ⟨staged, calls, entries⟩ := unitsAccounted_iff.mp h
  refine unitsAccounted_iff.mpr ⟨fun b => ?_, ?_, fun p => ?_⟩
  · simpa only [State.staged, cards] using staged b
  · simpa only [lanes] using calls
  · simpa only [State.lane, lanes] using entries p

/-- A part that holds no card, as after a reset. -/
theorem accounted_of_initial {t : State} (cards : t.cdm = Cdm.initial) (lanes : t.lnc = Lnc.initial) :
    t.unitsAccounted := by
  refine unitsAccounted_iff.mpr ⟨fun b => ?_, ?_, fun p => ?_⟩
  · simp [State.staged, cards, Cdm.initial]
  · simp [lanes, Lnc.initial]
  · simp [State.lane, lanes, Lnc.initial]

theorem accounted_setStaged {b : Bench} {l : List CardCtx} (hl : ∀ c ∈ l, c.accounted) (h : s.unitsAccounted) :
    (setStaged b l s).unitsAccounted := by
  obtain ⟨staged, rest⟩ := unitsAccounted_iff.mp h
  refine unitsAccounted_iff.mpr ⟨fun d => ?_, rest⟩
  by_cases same : b = d
  · subst same; simpa using hl
  · simpa [setStaged_staged_ne same] using staged d

theorem accounted_setLane {p : Port} {l : List Entry} (hl : ∀ e ∈ l, e.accounted) (h : s.unitsAccounted) :
    (setLane p l s).unitsAccounted := by
  obtain ⟨staged, calls, lanes⟩ := unitsAccounted_iff.mp h
  refine unitsAccounted_iff.mpr ⟨staged, calls, fun q => ?_⟩
  by_cases same : p = q
  · subst same; simpa using hl
  · simpa [setLane_lane_ne same] using lanes q

theorem accounted_setCalls {cs : List Call} (hcs : ∀ x ∈ cs, x.card.accounted) (h : s.unitsAccounted) :
    ({ s with lnc := { s.lnc with calls := cs } } : State).unitsAccounted := by
  obtain ⟨staged, -, lanes⟩ := unitsAccounted_iff.mp h
  exact unitsAccounted_iff.mpr ⟨staged, hcs, lanes⟩

theorem accounted_setHead {p : Port} {e : Entry} (he : e.accounted) (h : s.unitsAccounted) :
    (setHead p e s).unitsAccounted :=
  accounted_setLane (List.forall_mem_cons.mpr ⟨he, fun _ mem => accounted_entry h (List.mem_of_mem_tail mem)⟩) h

theorem accounted_setHeadCard {p : Port} {e : Entry} {c : CardCtx} {st : EntryState} (hc : c.accounted)
    (h : s.unitsAccounted) : (setHeadCard p e c st s).unitsAccounted := accounted_setHead (Entry.accounted_some st hc) h

theorem accounted_joinLane {p : Port} {e : Entry} (he : e.accounted) (h : s.unitsAccounted) :
    (joinLane p e s).unitsAccounted :=
  accounted_setLane (List.forall_mem_append.mpr ⟨fun _ => accounted_entry h, List.forall_mem_singleton.mpr he⟩) h

/-- Every call changed by a function that leaves its card. -/
theorem accounted_mapCalls {f : Call → Call} (hf : ∀ x, (f x).card = x.card) (h : s.unitsAccounted) :
    ({ s with lnc := { s.lnc with calls := s.lnc.calls.map f } } : State).unitsAccounted := by
  refine accounted_setCalls (List.forall_mem_map.mpr fun x mem => ?_) h
  rw [hf]
  exact accounted_call h mem

theorem accounted_putCall {c : Call} (hc : c.card.accounted) (h : s.unitsAccounted) : (putCall c s).unitsAccounted := by
  refine accounted_setCalls (List.forall_mem_map.mpr fun x mem => ?_) h
  split
  · exact hc
  · exact accounted_call h mem

theorem accounted_removeCall (n : Nat) (h : s.unitsAccounted) : (removeCall n s).unitsAccounted :=
  accounted_setCalls (fun _ mem => accounted_call h (List.mem_filter.mp mem).left) h

theorem accounted_unstage (c : CardCtx) (h : s.unitsAccounted) : (unstage c s).unitsAccounted :=
  accounted_setStaged (fun _ mem => accounted_staged h (List.mem_filter.mp mem).left) h

/-- R47, R107: a flag set in the context of a taking, wherever it stands. -/
theorem accounted_updateTaking (card : Nat) (seq : Word) {f : CardCtx → CardCtx} (hf : ∀ c, (f c).lines = c.lines)
    (h : s.unitsAccounted) : (updateTaking card seq f s).unitsAccounted := by
  have one : ∀ c : CardCtx, c.accounted → (if c.named card seq then f c else c).accounted := by
    intro c hc
    split
    · exact CardCtx.accounted_of_lines (hf c) hc
    · exact hc
  refine unitsAccounted_iff.mpr ⟨fun b => ?_, List.forall_mem_map.mpr fun x mem => one _ (accounted_call h mem),
    fun p => ?_⟩
  · simp only [State.staged, updateTaking, Fin.getElem_fin, Vector.getElem_map]
    exact List.forall_mem_map.mpr fun c mem => one c (accounted_staged h mem)
  · simp only [State.lane, updateTaking, Fin.getElem_fin, Vector.getElem_map]
    refine List.forall_mem_map.mpr fun e mem d same => ?_
    obtain ⟨c, card, rfl⟩ := Option.map_eq_some_iff.mp same
    exact one c (accounted_entry h mem c card)

theorem accounted_foldl {α : Type} {f : State → α → State} {l : List α}
    (hf : ∀ t, ∀ a ∈ l, t.unitsAccounted → (f t a).unitsAccounted) (h : s.unitsAccounted) :
    (l.foldl f s).unitsAccounted := by
  induction l generalizing s with
  | nil => exact h
  | cons a l ih =>
    exact ih (fun t b mem => hf t b (List.mem_cons_of_mem a mem)) (hf s a List.mem_cons_self h)

theorem accounted_ite (c : Prop) [Decidable c] {t u : State} (ht : t.unitsAccounted) (hu : u.unitsAccounted) :
    (if c then t else u).unitsAccounted := by
  split
  · exact ht
  · exact hu

end Sys2Proof.Machine
end

section
/-! SUPPORT. Units accounted for (O59), continued: notices, links, writes and lane heads. -/

namespace Sys2Proof.Machine

variable {s : State}

/-! ### Operations that touch no card -/

theorem accounted_findSignals (quiet : Bool) (h : s.unitsAccounted) : (findSignals quiet s).unitsAccounted :=
  accounted_of_eq (findSignals_cdm quiet s) (findSignals_lnc quiet s) h

theorem accounted_raise (e : Event) (h : s.unitsAccounted) : (raise e s).unitsAccounted :=
  accounted_of_eq (raise_cdm e s) (raise_lnc e s) h

theorem accounted_report (r : Report) (h : s.unitsAccounted) : (report r s).unitsAccounted :=
  accounted_of_eq (report_cdm r s) (report_lnc r s) h

theorem accounted_gridHand (m : GridMsg) (h : s.unitsAccounted) : (gridHand m s).unitsAccounted :=
  accounted_of_eq (gridHand_cdm m s) (gridHand_lnc m s) h

theorem accounted_benchHand (b : Bench) (m : BenchMsg) (h : s.unitsAccounted) : (benchHand b m s).unitsAccounted :=
  accounted_of_eq (benchHand_cdm b m s) (benchHand_lnc b m s) h

theorem accounted_answer (b : Bench) (r : Reason) (h : s.unitsAccounted) : (answer b r s).unitsAccounted :=
  accounted_of_eq (answer_cdm b r s) (answer_lnc b r s) h

theorem accounted_answerPlace (q : PutPos) (r : Reason) (h : s.unitsAccounted) :
    (answerPlace q r s).unitsAccounted := accounted_of_eq (answerPlace_cdm q r s) (answerPlace_lnc q r s) h

theorem accounted_panelReset (b : Bench) (h : s.unitsAccounted) : (panelReset b s).unitsAccounted :=
  accounted_of_eq (panelReset_cdm b s) (panelReset_lnc b s) h

theorem accounted_panelResets (h : s.unitsAccounted) : (panelResets s).unitsAccounted :=
  accounted_of_eq (panelResets_cdm s) (panelResets_lnc s) h

theorem accounted_count (f : Counters → Counters) (h : s.unitsAccounted) : (count f s).unitsAccounted := h

theorem accounted_setMga (m : Mga) (h : s.unitsAccounted) : (setMga m s).unitsAccounted := h

theorem accounted_requestRelease (p : Port) (e : Entry) (h : s.unitsAccounted) : (requestRelease p e s).unitsAccounted := h

theorem accounted_portCue (p : Port) (c : Cue) (h : s.unitsAccounted) : (portCue p c s).unitsAccounted :=
  accounted_of_eq (portCue_cdm p c s) (portCue_lnc p c s) h

theorem accounted_showLine (p : Port) (l : Line) (h : s.unitsAccounted) : (showLine p l s).unitsAccounted :=
  accounted_of_eq (showLine_cdm p l s) (showLine_lnc p l s) h

theorem accounted_unshowLines (p : Port) (ls : List Line) (h : s.unitsAccounted) :
    (ls.foldl (fun t l => unshowLine p l t) s).unitsAccounted :=
  accounted_foldl (fun t l _ => accounted_of_eq (unshowLine_cdm p l t) (unshowLine_lnc p l t)) h

theorem accounted_writeStatus (h : s.unitsAccounted) : (writeStatus s).unitsAccounted := by
  unfold writeStatus
  split <;> exact h

theorem accounted_setRunState (r : RunState) (h : s.unitsAccounted) : (setRunState r s).unitsAccounted :=
  accounted_raise _ (accounted_writeStatus (s := { s with pau := { s.pau with runState := r } }) h)

theorem accounted_writeDone (card : Nat) (part : CardPart) (h : s.unitsAccounted) :
    (writeDone card part s).unitsAccounted := accounted_raise (s := post _ _ (post _ _ s)) .cardDone h

/-- R53: the card that goes back to the host is in no list any more; what is written of it touches none that is held. -/
theorem accounted_returnCard (c : CardCtx) (h : s.unitsAccounted) : (returnCard c s).unitsAccounted := by
  unfold returnCard
  split
  · exact h
  · exact accounted_writeDone (s := endExposure c s) _ _ h

theorem accounted_finishStaged (r : CardResult) (lr : LineResult) (c : CardCtx) (h : s.unitsAccounted) :
    (finishStaged r lr c s).unitsAccounted := accounted_returnCard _ (accounted_unstage c h)

theorem accounted_countLinesCut (ls : List Line) (h : s.unitsAccounted) : (countLinesCut ls s).unitsAccounted := by
  refine accounted_foldl (fun t l _ ht => ?_) h
  split <;> exact ht

/-! ### Lane heads -/

theorem accounted_resolveHead (p : Port) (sel : Line → Bool) (r : LineResult) (h : s.unitsAccounted) :
    (resolveHead p sel r s).unitsAccounted := by
  unfold resolveHead
  split
  · exact h
  next e c found =>
    have resolved := CardCtx.accounted_resolveLines sel r (accounted_headCard h found)
    exact accounted_unshowLines p _ (accounted_setHeadCard resolved h)

theorem accounted_endHead (p : Port) (un : CardResult) (byRecall : Bool) (h : s.unitsAccounted) :
    (endHead p un byRecall s).unitsAccounted := by
  unfold endHead
  split
  · exact h
  next e head =>
    have entry := accounted_head h head
    split
    · exact accounted_requestRelease p e (accounted_setHead (Entry.accounted_state .ended entry) h)
    next c card =>
      have ended : ∀ r, (setHead p { e with card := some { c with result := r }, state := .ended } s).unitsAccounted :=
        fun r => accounted_setHead (Entry.accounted_some _ (CardCtx.accounted_of_lines rfl (entry c card))) h
      split
      · exact accounted_requestRelease p _ (ended (some un))
      · exact accounted_count _ (accounted_requestRelease p _ (ended (some (c.presentedResult byRecall))))

theorem accounted_endWith (p : Port) (un : CardResult) (lr : LineResult) (byRecall : Bool) (h : s.unitsAccounted) :
    (endWith p un lr byRecall s).unitsAccounted := accounted_endHead p un byRecall (accounted_resolveHead p _ lr h)

theorem accounted_settleEntry (p : Port) (h : s.unitsAccounted) : (settleEntry p s).unitsAccounted := by
  unfold settleEntry
  split
  · exact h
  next e c found =>
    have entry := accounted_headEntry h found
    split
    · exact accounted_endHead p _ _ h
    · split
      · exact accounted_setHead (Entry.accounted_state .presenting entry) h
      · exact accounted_setHead (Entry.accounted_state .waitingBench entry) h

theorem accounted_questionHead (p : Port) (sel : Line → Bool) (h : s.unitsAccounted) :
    (questionHead p sel s).unitsAccounted := by
  unfold questionHead
  split
  · exact h
  next e c found =>
    have asked := CardCtx.accounted_mapIf (fun l => l.unresolved && sel l)
      (fun _ => accounted_questionLine (s := s) c.benches) (accounted_headCard h found)
    refine accounted_foldl (fun t l _ ht => ?_) (accounted_setHeadCard asked h)
    unfold questionEffect
    split
    · exact accounted_countLinesCut _ ht
    · exact accounted_showLine p l ht

theorem accounted_presentFirst (p : Port) (h : s.unitsAccounted) : (presentFirst p s).unitsAccounted := by
  unfold presentFirst
  split
  · exact h
  next e c found =>
    have presented := CardCtx.accounted_of_lines (c := c)
      (d := { c with portPresented := some p, timePresented := some s.clock }) rfl (accounted_headCard h found)
    exact accounted_settleEntry p (accounted_questionHead p _ (accounted_count _ (accounted_setHeadCard presented h)))

theorem accounted_dockHead (p : Port) (h : s.unitsAccounted) : (dockHead p s).unitsAccounted := by
  unfold dockHead
  split
  · exact accounted_endHead p _ _ h
  next e c found =>
    have waits := accounted_setHead (p := p) (Entry.accounted_state .waitingBench (accounted_headEntry h found)) h
    exact accounted_ite _ (accounted_endWith p _ _ _ h) (accounted_ite _ (accounted_endWith p _ _ _ h)
      (accounted_ite _ (accounted_endWith p _ _ _ h) (accounted_ite _ (accounted_presentFirst p h) waits)))

theorem accounted_darkenHead (b : Bench) (p : Port) (h : s.unitsAccounted) : (darkenHead b p s).unitsAccounted := by
  simp only [darkenHead]
  split
  · exact h
  next e c found =>
    have dark := CardCtx.accounted_mapIf (f := fun l => { l with lit := false }) (fun l => l.lit && l.ofBench b)
      (fun _ hl => hl) (accounted_headCard h found)
    exact accounted_ite _ (accounted_settleEntry p (accounted_unshowLines p _ (accounted_setHeadCard dark h))) h

theorem accounted_relightHead (b : Bench) (p : Port) (h : s.unitsAccounted) : (relightHead b p s).unitsAccounted := by
  unfold relightHead
  split
  · exact h
  · have relit := accounted_settleEntry p (accounted_questionHead p (Line.ofBench b) h)
    exact accounted_ite _ (accounted_ite _ relit h) (accounted_ite _ (accounted_presentFirst p h) h)

theorem accounted_closeHead (b : Bench) (p : Port) (h : s.unitsAccounted) : (closeHead b p s).unitsAccounted := by
  unfold closeHead
  split
  · exact h
  · have closed := fun ls => accounted_countLinesCut ls (accounted_resolveHead p (Line.ofBench b) .benchClosed h)
    exact accounted_ite _ (accounted_settleEntry p (closed _)) (accounted_ite _ (accounted_endWith p _ _ _ h) h)

theorem accounted_recallHead (card : Nat) (seq : Word) (p : Port) (h : s.unitsAccounted) :
    (recallHead card seq p s).unitsAccounted := by
  have marked : (markRequest p s).unitsAccounted := h
  unfold recallHead
  split
  · exact h
  · refine accounted_ite _ ?_ h
    split
    · exact accounted_endWith p _ _ _ h
    · exact accounted_endWith p _ _ _ h
    · exact marked
    · exact h

theorem accounted_withdrawHead (card : Nat) (seq : Word) (p : Port) (h : s.unitsAccounted) :
    (withdrawHead card seq p s).unitsAccounted := by
  unfold withdrawHead
  split
  · exact h
  · exact accounted_ite _ (accounted_endWith p _ _ _ h) h

theorem accounted_recallTaking (card : Nat) (seq : Word) (h : s.unitsAccounted) :
    (recallTaking card seq s).unitsAccounted :=
  accounted_foldl (fun _ p _ => accounted_recallHead card seq p) (accounted_updateTaking card seq (fun _ => rfl) h)

theorem accounted_withdrawAcceptance (j : Nat) (lr : LineResult) (h : s.unitsAccounted) :
    (withdrawAcceptance j lr s).unitsAccounted := by
  refine accounted_foldl (fun t p _ ht => ?_) h
  simp only [withdrawAcceptanceAt]
  split
  · exact ht
  · exact accounted_ite _ ht (accounted_settleEntry p (accounted_countLinesCut _ (accounted_resolveHead p _ lr ht)))

/-! ### Holds and the merge -/

theorem accounted_setHold (p : Port) (x : PortHold) (h : s.unitsAccounted) : (setHold p x s).unitsAccounted := h

theorem accounted_sendHold (p : Port) (h : s.unitsAccounted) : (sendHold p s).unitsAccounted :=
  accounted_count _ (accounted_setHold p _ (accounted_gridHand _ h))

theorem accounted_refreshHold (p : Port) (h : s.unitsAccounted) : (refreshHold p s).unitsAccounted := by
  have resumed : (resumeDispatch p s).unitsAccounted := by
    unfold resumeDispatch
    split
    · exact h
    · exact accounted_setHold p _ (accounted_gridHand _ h)
  refine accounted_setHold p _ ?_
  exact accounted_ite _ h (accounted_ite _ (accounted_sendHold p h) (accounted_ite _ resumed h))

theorem accounted_refreshHolds (h : s.unitsAccounted) : (refreshHolds s).unitsAccounted :=
  accounted_foldl (fun _ p _ => accounted_refreshHold p) h

theorem accounted_resumeHolds (h : s.unitsAccounted) : (resumeHolds s).unitsAccounted :=
  accounted_foldl (fun _ p _ ht => accounted_ite _ (accounted_sendHold p ht) ht) h

theorem accounted_releaseHead (p : Port) (h : s.unitsAccounted) : (releaseHead p s).unitsAccounted := by
  unfold releaseHead
  split
  next e head => exact accounted_setHead (Entry.accounted_state .releasing (accounted_head h head)) h
  · exact h

theorem accounted_grant (r : Requester) (h : s.unitsAccounted) : (grant r s).unitsAccounted := by
  cases r with
  | port p =>
    simp only [grant, grantPort]
    split
    · exact h
    · exact accounted_portCue p _ (accounted_gridHand _ (accounted_releaseHead p
        (accounted_count _ (accounted_setMga _ h))))
  | recirc => exact accounted_gridHand _ (accounted_count _ (accounted_setMga _ h))

theorem accounted_openMerge (r : Requester) (h : s.unitsAccounted) : (openMerge r s).unitsAccounted := h

theorem accounted_mergeStep (h : s.unitsAccounted) : (mergeStep s).unitsAccounted := by
  have swings : ∀ r, (beginSwing r s).unitsAccounted := fun _ => h
  refine accounted_ite _ ?_ h
  split
  · exact accounted_grant _ h
  · split
    · exact h
    · exact accounted_ite _ (accounted_grant _ h) (swings _)
  · exact h

theorem accounted_withdrawTarget (r : Requester) (h : s.unitsAccounted) : (withdrawTarget r s).unitsAccounted := by
  unfold withdrawTarget
  split
  · exact h
  · split <;> exact h
  · exact h

theorem accounted_endTenure (r : Requester) (h : s.unitsAccounted) : (endTenure r s).unitsAccounted :=
  accounted_ite _ h h

/-! ### Exposure records -/

theorem accounted_countForTaking (card : Nat) (seq : Word) (f : BenchCounters → BenchCounters) (h : s.unitsAccounted) :
    (countForTaking card seq f s).unitsAccounted := by
  unfold countForTaking
  split <;> exact h

theorem accounted_warnRecord (card : Nat) (seq : Word) (h : s.unitsAccounted) :
    (warnRecord card seq s).unitsAccounted := by
  unfold warnRecord
  split
  · exact h
  · refine accounted_ite _ (accounted_countForTaking _ _ _ (accounted_raise _ (accounted_portCue _ _ ?_))) h
    exact h

theorem accounted_markOverdue (r : Exposure) (h : s.unitsAccounted) : (markOverdue r s).unitsAccounted := by
  simp only [markOverdue]
  split
  · exact h
  · split
    · exact h
    · exact accounted_report _ h

theorem accounted_recallRecord (card : Nat) (seq : Word) (h : s.unitsAccounted) :
    (recallRecord card seq s).unitsAccounted := by
  unfold recallRecord
  split
  · exact h
  · have recalled := accounted_recallTaking
      (s := updateExposure card seq (fun x => { x with recalled := true }) s) card seq h
    exact accounted_ite _ (accounted_markOverdue _ (accounted_countForTaking _ _ _ (accounted_raise _ recalled))) h

theorem accounted_compareRecord (card : Nat) (seq : Word) (h : s.unitsAccounted) :
    (compareRecord card seq s).unitsAccounted := accounted_recallRecord _ _ (accounted_warnRecord _ _ h)

theorem accounted_startExposure (c : CardCtx) (p : Port) (h : s.unitsAccounted) :
    (startExposure c p s).unitsAccounted :=
  accounted_ite _ (accounted_compareRecord (s := { s with exposures := _ }) _ _ h) h

end Sys2Proof.Machine
end

section
/-! SUPPORT. Units accounted for (O59), continued: calls, the Call Selector, the put wall, tag translation, and changes
of run state. A call that an operation takes as its operand carries a card that is accounted for: it stands in the call table. -/

namespace Sys2Proof.Machine

variable {s : State}

/-! ### Calls -/

theorem accounted_endCall (c : Call) (r : CardResult) (lr : LineResult) (h : s.unitsAccounted) :
    (endCall c r lr s).unitsAccounted := accounted_returnCard _ (accounted_removeCall c.number h)

theorem accounted_failCall (c : Call) (h : s.unitsAccounted) : (failCall c s).unitsAccounted :=
  accounted_count _ (accounted_endCall c _ _ h)

theorem accounted_loseCall (c : Call) (h : s.unitsAccounted) : (loseCall c s).unitsAccounted :=
  accounted_report _ (accounted_count _ (accounted_endCall c _ _ h))

theorem accounted_confirmCancel (c : Call) (h : s.unitsAccounted) : (confirmCancel c s).unitsAccounted := by
  unfold confirmCancel
  split
  · exact accounted_endCall c _ _ h
  · split <;> exact accounted_endCall c _ _ h

/-- A message that goes out as a call's record is replaced. -/
theorem accounted_putCall_hand {c : Call} (m : GridMsg) (hc : c.card.accounted) (h : s.unitsAccounted) :
    (gridHand m (putCall c s)).unitsAccounted := accounted_gridHand m (accounted_putCall hc h)

theorem accounted_cancelCall (why : CancelReason) {c : Call} (hc : c.card.accounted) (h : s.unitsAccounted) :
    (cancelCall why c s).unitsAccounted := accounted_ite _ (accounted_putCall_hand _ hc h) h

theorem accounted_cancelCalls (why : CancelReason) (sel : Call → Bool) (h : s.unitsAccounted) :
    (cancelCalls why sel s).unitsAccounted :=
  accounted_foldl (fun _ _ mem => accounted_cancelCall why (accounted_call h (List.mem_filter.mp mem).left)) h

theorem accounted_cancelIfDue (n : Nat) (h : s.unitsAccounted) : (cancelIfDue n s).unitsAccounted := by
  unfold cancelIfDue
  split
  · exact h
  next c found =>
    have cancelled := fun why => accounted_cancelCall why (accounted_findCall h found) h
    exact accounted_ite _ (cancelled _) (accounted_ite _ (cancelled _) h)

theorem accounted_startGap {c : Call} (hc : c.card.accounted) (h : s.unitsAccounted) : (startGap c s).unitsAccounted :=
  accounted_putCall hc h

theorem accounted_busyRefusal {c : Call} (hc : c.card.accounted) (h : s.unitsAccounted) :
    (busyRefusal c s).unitsAccounted := by
  have exhausted : (startGap { c with exhausted := true } s).unitsAccounted := accounted_startGap hc h
  have again := accounted_cancelIfDue c.number (accounted_startGap hc h)
  have givenUp := accounted_report (c.report .callRetryExhausted) (accounted_failCall c h)
  have reported := accounted_report (c.report .callRetryExhausted) exhausted
  exact accounted_ite _ again (accounted_ite _ givenUp (accounted_cancelIfDue _ (accounted_ite _ exhausted reported)))

theorem accounted_seeDispatch {c : Call} (hc : c.card.accounted) (h : s.unitsAccounted) :
    (seeDispatch c s).unitsAccounted := by
  have seen : (putCall { c with dispatchSeen := true } s).unitsAccounted := accounted_putCall hc h
  exact accounted_ite _ seen (accounted_startExposure _ _ seen)

theorem accounted_beginInquiry {c : Call} (hc : c.card.accounted) (h : s.unitsAccounted) :
    (beginInquiry c s).unitsAccounted := accounted_putCall_hand _ hc h

theorem accounted_inquiryExpiry {c : Call} (hc : c.card.accounted) (h : s.unitsAccounted) :
    (inquiryExpiry c s).unitsAccounted := accounted_ite _ (accounted_putCall_hand _ hc h) (accounted_loseCall c h)

theorem accounted_inquiryFound (dispatched : Bool) {c : Call} (hc : c.card.accounted) (h : s.unitsAccounted) :
    (inquiryFound dispatched c s).unitsAccounted := by
  simp only [inquiryFound]
  split
  · exact accounted_seeDispatch hc h
  · exact accounted_cancelIfDue _ (accounted_putCall hc h)

theorem accounted_acceptAnswer {c : Call} (hc : c.card.accounted) (h : s.unitsAccounted) :
    (acceptAnswer c s).unitsAccounted := accounted_ite _ (accounted_putCall hc h) h

theorem accounted_refuseAnswer (reason : Nat) {c : Call} (hc : c.card.accounted) (h : s.unitsAccounted) :
    (refuseAnswer reason c s).unitsAccounted := by
  have busy := accounted_busyRefusal hc h
  exact accounted_ite _ (accounted_confirmCancel c h)
    (accounted_ite _ (accounted_ite _ busy (accounted_failCall c h)) h)

theorem accounted_dispatchedAnswer {c : Call} (hc : c.card.accounted) (h : s.unitsAccounted) :
    (dispatchedAnswer c s).unitsAccounted := by
  unfold dispatchedAnswer
  split
  · exact accounted_seeDispatch hc h
  · split
    · exact accounted_seeDispatch hc h
    · exact accounted_seeDispatch hc h
    · exact accounted_seeDispatch hc h
    · exact h

theorem accounted_statusAnswer (status : Nat) {c : Call} (hc : c.card.accounted) (h : s.unitsAccounted) :
    (statusAnswer status c s).unitsAccounted := by
  have pending : (cancelPending c s).unitsAccounted := accounted_putCall_hand _ hc h
  have late : (cancelTooLate c s).unitsAccounted := accounted_seeDispatch hc h
  have found := fun dispatched => accounted_inquiryFound dispatched hc h
  have settled := accounted_ite (status = statusPending) (found false)
    (accounted_ite (status = statusDispatched) (found true) (accounted_failCall c h))
  exact accounted_ite _ (accounted_ite _ pending (accounted_ite _ late (accounted_confirmCancel c h)))
    (accounted_ite _ settled h)

theorem accounted_transitExpiry {c : Call} (hc : c.card.accounted) (h : s.unitsAccounted) :
    (transitExpiry c s).unitsAccounted := by
  simp only [transitExpiry]
  split
  · exact accounted_loseCall c h
  · split
    · exact accounted_beginInquiry hc h
    · exact accounted_beginInquiry hc h
    · exact accounted_beginInquiry hc h
    · exact accounted_putCall hc h

theorem accounted_resendCall {c : Call} (hc : c.card.accounted) (h : s.unitsAccounted) :
    (resendCall c s).unitsAccounted := accounted_count _ (accounted_putCall_hand _ hc h)

theorem mem_insertCall {c x : Call} {cs : List Call} (mem : x ∈ insertCall c cs) : x = c ∨ x ∈ cs := by
  induction cs with
  | nil => simpa [insertCall] using mem
  | cons d rest ih =>
    unfold insertCall at mem
    split at mem
    · simpa using mem
    · rcases List.mem_cons.mp mem with same | later
      · exact .inr (same ▸ List.mem_cons_self)
      · exact (ih later).imp_right (List.mem_cons_of_mem d)

/-- Putting calls in order of their numbers adds none. -/
theorem mem_of_mem_byNumber {x : Call} {cs : List Call} (mem : x ∈ byNumber cs) : x ∈ cs := by
  induction cs with
  | nil => exact mem
  | cons d rest ih =>
    rcases mem_insertCall mem with same | later
    · exact same ▸ List.mem_cons_self
    · exact List.mem_cons_of_mem d (ih later)

theorem accounted_inquireAll (h : s.unitsAccounted) : (inquireAll s).unitsAccounted :=
  accounted_foldl (fun _ _ mem =>
    accounted_beginInquiry (accounted_call h (List.mem_filter.mp (mem_of_mem_byNumber mem)).left)) h

/-! ### The Call Selector and the takes -/

theorem accounted_makeCall {c : CardCtx} (p : Port) (hc : c.accounted) (h : s.unitsAccounted) :
    (makeCall c p s).unitsAccounted := by
  have lent : ∀ t : State, t.unitsAccounted → (recordLend c p t).unitsAccounted := by
    intro t ht
    unfold recordLend
    split
    · exact accounted_ite _ ht ht
    · exact ht
  have unstaged := accounted_unstage c h
  refine lent _ (accounted_count _ (accounted_gridHand _ ?_))
  exact accounted_setCalls (s := { unstage c s with lnc := { (unstage c s).lnc with lastCall := s.nextCallNumber } })
    (List.forall_mem_append.mpr ⟨fun _ => accounted_call unstaged, List.forall_mem_singleton.mpr hc⟩) unstaged

theorem staged_of_ownChoice {b : Bench} {x : CardCtx × Port} (chosen : s.ownChoice b = some x) : x.1 ∈ s.staged b := by
  obtain ⟨c, mem, port⟩ := List.exists_of_findSome?_eq_some chosen
  obtain ⟨p, -, rfl⟩ := Option.map_eq_some_iff.mp port
  simp only [State.byUrgency, List.mem_append, List.mem_filter] at mem
  rcases mem with ⟨⟨staged, -⟩, -⟩ | ⟨⟨staged, -⟩, -⟩ <;> exact staged

theorem staged_of_twinCandidate {q : Fin 2} {c : CardCtx} (mem : c ∈ s.twinCandidates q) :
    c ∈ s.staged (lowerBench q) := by
  unfold State.twinCandidates at mem
  split at mem
  · exact (List.mem_filter.mp mem).left
  · exact absurd mem List.not_mem_nil

theorem staged_of_lendCandidate {q : Fin 2} {b : Bench} {c : CardCtx} (mem : c ∈ s.lendCandidates q b) :
    c ∈ s.staged b := by
  unfold State.lendCandidates at mem
  split at mem
  · exact (List.mem_filter.mp mem).left
  · exact absurd mem List.not_mem_nil

theorem staged_of_lendChoice {q : Fin 2} {sel : CardCtx → Bool} {c : CardCtx} (chosen : s.lendChoice q sel = some c) :
    ∃ b, c ∈ s.staged b := by
  unfold State.lendChoice at chosen
  split at chosen
  next d found =>
    cases chosen
    exact ⟨_, staged_of_lendCandidate (List.mem_of_find?_eq_some found)⟩
  · exact ⟨_, staged_of_lendCandidate (List.mem_of_find?_eq_some chosen)⟩

theorem staged_of_sharedChoice {q : Fin 2} {x : CardCtx × Port} (chosen : s.sharedChoice q = some x) :
    ∃ b, x.1 ∈ s.staged b := by
  simp only [State.sharedChoice] at chosen
  split at chosen
  · obtain ⟨c, first, rfl⟩ := Option.map_eq_some_iff.mp chosen
    obtain ⟨group, mem, rfl⟩ := List.exists_of_findSome?_eq_some first
    have twin : ∀ sel, (s.twinCandidates q).find? sel = some c → ∃ b, c ∈ s.staged b := fun _ found =>
      ⟨_, staged_of_twinCandidate (List.mem_of_find?_eq_some found)⟩
    simp only [List.mem_cons, List.not_mem_nil, or_false] at mem
    rcases mem with found | found | found | found
    · exact twin _ found.symm
    · exact staged_of_lendChoice found.symm
    · exact twin _ found.symm
    · exact staged_of_lendChoice found.symm
  · exact absurd chosen (by simp)

/-- R75, R117: the cards that a choice can call are staged ones. -/
theorem staged_of_mem_choices {x : CardCtx × Port} (mem : x ∈ s.choices) : ∃ b, x.1 ∈ s.staged b := by
  rcases List.mem_append.mp mem with own | shared
  · obtain ⟨b, -, chosen⟩ := List.mem_filterMap.mp own
    exact ⟨b, staged_of_ownChoice chosen⟩
  · obtain ⟨q, -, chosen⟩ := List.mem_filterMap.mp shared
    exact staged_of_sharedChoice chosen

theorem accounted_chooseOnce {t : State} (e : chooseOnce s = some t) (h : s.unitsAccounted) : t.unitsAccounted := by
  have choice : ∀ x ∈ s.choices, x.1.accounted := by
    intro x mem
    obtain ⟨b, staged⟩ := staged_of_mem_choices mem
    exact accounted_staged h staged
  unfold chooseOnce at e
  split at e
  · exact absurd e (by simp)
  next x one =>
    cases e
    exact accounted_makeCall _ (choice x (by simp [one])) h
  next x rest _ several =>
    cases e
    have place : Config.freeChoice s.freeCount % (rest.length + 1) < (x :: rest).length := Nat.mod_lt _ (Nat.succ_pos _)
    refine accounted_makeCall (s := { s with freeCount := s.freeCount + 1 }) _ (choice _ ?_) h
    rw [several, List.getD_eq_getElem?_getD, List.getElem?_eq_getElem place]
    exact List.getElem_mem place

theorem accounted_callLoop (fuel : Nat) (h : s.unitsAccounted) : (callLoop fuel s).unitsAccounted := by
  induction fuel generalizing s with
  | zero => exact h
  | succ n ih =>
    unfold callLoop
    split
    · exact h
    next t e => exact ih (accounted_chooseOnce e h)

theorem accounted_selectCalls (h : s.unitsAccounted) : (selectCalls s).unitsAccounted := accounted_callLoop _ h

theorem accounted_issueRead (r : ReadFor) (addr len : Nat) (h : s.unitsAccounted) :
    (issueRead r addr len s).unitsAccounted := h

theorem accounted_setChain (b : Bench) (c : Chain) (h : s.unitsAccounted) : (setChain b c s).unitsAccounted := h

theorem accounted_beginTakes (h : s.unitsAccounted) : (beginTakes s).unitsAccounted :=
  accounted_foldl (fun _ _ _ ht => accounted_ite _ (accounted_issueRead _ _ _ (accounted_setChain _ _ ht)) ht) h

/-! ### The put wall -/

theorem accounted_setPosition (q : PutPos) (e : Position) (h : s.unitsAccounted) : (setPosition q e s).unitsAccounted := h

theorem accounted_failBinding (q : PutPos) (r : Reason) (h : s.unitsAccounted) :
    (failBinding q r s).unitsAccounted := accounted_answerPlace q r (accounted_setPosition q _ h)

theorem accounted_bindingAnswered (q : PutPos) (a : LookupAnswer) (h : s.unitsAccounted) :
    (bindingAnswered q a s).unitsAccounted := by
  simp only [bindingAnswered]
  split
  · exact h
  · split
    · split
      · exact accounted_failBinding q _ h
      · exact accounted_ite _ (accounted_failBinding q _ h) h
      · exact accounted_failBinding q _ h
    · exact h

theorem accounted_bindOrder (q : PutPos) (j : Nat) (o : OrderBytes) (h : s.unitsAccounted) :
    (bindOrder q j o s).unitsAccounted := by
  have bound : ∀ e part, (answerPlace q .accept (writeOrder j part stateBound (setPosition q e s))).unitsAccounted :=
    fun e _ => accounted_answerPlace (s := writeOrder _ _ _ _) q _ (accounted_setPosition q e h)
  exact accounted_ite _ (accounted_raise _ (bound _ _)) (bound _ _)

theorem accounted_orderRecordReturned (q : PutPos) (j : Nat) (data : List Byte) (h : s.unitsAccounted) :
    (orderRecordReturned q j data s).unitsAccounted := by
  have bound := accounted_bindOrder q j (parseOrder data) h
  have forgotten := accounted_setPosition q { s.position q with stale := false } h
  have refused := fun r => accounted_failBinding q r h
  refine accounted_ite _ forgotten (accounted_ite _ (accounted_ite _ (refused _) ?_) h)
  exact accounted_ite _ (accounted_report _ (refused _)) (accounted_ite _ (refused _) (accounted_ite _ (refused _) bound))

theorem accounted_stopAccepting (q : PutPos) (st : PosState) (h : s.unitsAccounted) :
    (stopAccepting q st s).unitsAccounted := by
  simp only [stopAccepting]
  split
  · exact accounted_withdrawAcceptance _ _ (accounted_setPosition q _ h)
  · exact h

theorem accounted_closeOrder (q : PutPos) (reason : CloseReason) (h : s.unitsAccounted) :
    (closeOrder q reason s).unitsAccounted := by
  simp only [closeOrder]
  split
  · exact accounted_raise (s := writeOrder _ _ _ _) .orderClosed h
  · exact h

theorem accounted_removeAt (q : PutPos) (h : s.unitsAccounted) : (removeAt q s).unitsAccounted := by
  simp only [removeAt]
  split
  · exact h
  · exact accounted_answerPlace q _ (accounted_setPosition q _ h)
  · refine accounted_report _ (accounted_closeOrder q _ ?_)
    split
    · exact accounted_withdrawAcceptance _ _ h
    · exact h
  · exact accounted_closeOrder q _ h
  · exact accounted_closeOrder q _ h
  · exact accounted_closeOrder q _ h

theorem accounted_closeRequested (q : PutPos) (h : s.unitsAccounted) : (closeRequested q s).unitsAccounted :=
  accounted_ite _ (accounted_stopAccepting q _ (accounted_benchHand _ _ h)) h

theorem accounted_reportUnits (j u : Nat) (h : s.unitsAccounted) : (reportUnits j u s).unitsAccounted := by
  unfold reportUnits
  split <;> exact h

theorem accounted_reportLine (j : Nat) (h : s.unitsAccounted) : (reportLine j s).unitsAccounted := by
  simp only [reportLine]
  split
  · exact h
  · split
    · exact accounted_stopAccepting _ _ (accounted_benchHand _ _ (accounted_count _ (accounted_setPosition _ _ h)))
    · exact h

theorem accounted_findLate (q : PutPos) (h : s.unitsAccounted) : (findLate q s).unitsAccounted :=
  accounted_ite _ (accounted_raise .lateOrder (accounted_setPosition q _ h)) h

theorem accounted_cancelBindings (h : s.unitsAccounted) : (cancelBindings s).unitsAccounted :=
  accounted_foldl (fun _ q _ ht => accounted_ite _ (accounted_failBinding q _ ht) (accounted_setPosition q _ ht)) h

theorem accounted_closeDrained (h : s.unitsAccounted) : (closeDrained s).unitsAccounted :=
  accounted_foldl (fun _ q _ ht => accounted_ite _ (accounted_closeOrder q _ ht) ht) h

/-! ### Tag translation -/

theorem accounted_deliver (asker : Asker) (tag : Word) (a : LookupAnswer) (h : s.unitsAccounted) :
    (deliver asker tag a s).unitsAccounted := by
  cases asker with
  | place q => exact accounted_bindingAnswered q a h
  | arrival p => exact accounted_report _ h

theorem accounted_setTtu (t : Ttu) (h : s.unitsAccounted) : (setTtu t s).unitsAccounted := h

theorem accounted_startMiss (h : s.unitsAccounted) : (startMiss s).unitsAccounted := by
  unfold startMiss
  split
  · exact h
  · split <;> exact h

theorem accounted_lookup (tag : Word) (asker : Asker) (h : s.unitsAccounted) :
    (lookup tag asker s).unitsAccounted := by
  unfold lookup
  split
  · exact accounted_deliver _ _ _ h
  · split
    · exact accounted_deliver _ _ _ h
    · split
      · exact accounted_deliver _ _ _ (accounted_setTtu _ h)
      · exact accounted_ite _ (accounted_startMiss (accounted_setTtu _ h)) (accounted_deliver _ _ _ h)

theorem accounted_translationReturned (m : MissRead) (entry : Word) (h : s.unitsAccounted) :
    (translationReturned m entry s).unitsAccounted := by
  simp only [translationReturned]
  exact accounted_startMiss (accounted_foldl (fun _ l _ => accounted_deliver l.asker l.tag _) (accounted_setTtu _ h))

theorem accounted_tagReturned (entry : Word) (h : s.unitsAccounted) : (tagReturned entry s).unitsAccounted := by
  unfold tagReturned
  split
  · exact accounted_translationReturned _ entry h
  · exact h

/-! ### Changes of run state -/

theorem accounted_clearGridQueue (h : s.unitsAccounted) : (clearGridQueue s).unitsAccounted := h

/-- R45, R54: the take marks are no part of a held card. -/
theorem accounted_clearTakeMarks (h : s.unitsAccounted) : (clearTakeMarks s).unitsAccounted := h

theorem accounted_abandoned (h : s.unitsAccounted) : (discardReads (abandonSweep s)).unitsAccounted := h

theorem accounted_enterFaulted (h : s.unitsAccounted) : (enterFaulted s).unitsAccounted :=
  accounted_setRunState .faulted (accounted_panelResets (accounted_clearGridQueue (accounted_cancelBindings
    (accounted_clearTakeMarks (accounted_setTtu _ (accounted_abandoned (s := setPau _ s) h))))))

theorem accounted_enterDraining (h : s.unitsAccounted) : (enterDraining s).unitsAccounted :=
  accounted_setRunState .draining (accounted_cancelCalls _ _
    (accounted_foldl (fun _ _ _ => accounted_foldl (fun _ c _ => accounted_finishStaged _ _ c)) h))

theorem accounted_lapseHolds (h : s.unitsAccounted) : (lapseHolds s).unitsAccounted := h

theorem accounted_endDrain (h : s.unitsAccounted) : (endDrain s).unitsAccounted :=
  have closed := accounted_panelResets (accounted_closeDrained (accounted_cancelBindings (accounted_abandoned h)))
  accounted_setRunState .stopped (accounted_setMga _ (accounted_clearTakeMarks (accounted_setTtu _
    (accounted_lapseHolds (accounted_clearGridQueue closed)))))

theorem accounted_settle (h : s.unitsAccounted) : (settle s).unitsAccounted := by
  have begun := accounted_beginTakes (accounted_selectCalls (accounted_mergeStep (accounted_refreshHolds h)))
  exact accounted_ite _ (accounted_ite _ (accounted_endDrain begun) begun) h

end Sys2Proof.Machine
end

section
/-! SUPPORT. Units accounted for (O59, O60), continued: Clear and resets, sweeps, reads, the messages of both kinds of link,
time, and every command. -/

namespace Sys2Proof.Machine

variable {s : State}

theorem accounted_setPau (p : Pau) (h : s.unitsAccounted) : (setPau p s).unitsAccounted := h

theorem accounted_setBench (b : Bench) (c : Blc) (h : s.unitsAccounted) : (setBench b c s).unitsAccounted := h

theorem accounted_setGridLink (l : Link GridMsg) (h : s.unitsAccounted) : (setGridLink l s).unitsAccounted := h

/-! ### Answers -/

/-- The next state of an answer, if it has one, accounts for every unit. -/
def AccountedOut (o : Out) : Prop := ∀ t, o = .next t → t.unitsAccounted

theorem AccountedOut.next {t : State} (h : t.unitsAccounted) :
    AccountedOut (.next t) := fun _ same => by cases same; exact h

/-- A return that carries bytes, of the length of its read or not. -/
theorem AccountedOut.ofLength (c : Prop) [Decidable c] {t : State} (f : Fault) (ht : t.unitsAccounted) :
    AccountedOut (if c then .next t else .fault f) := by
  split
  · exact .next ht
  · exact fun _ e => nomatch e

/-! ### Clear, resets and STARTING: no card is held after them -/

theorem accounted_clearEvents (h : s.unitsAccounted) : (clearEvents s).unitsAccounted := accounted_findSignals false h

theorem accounted_clearAll (s : State) : (clearAll s).unitsAccounted := by
  have cleared := accounted_writeStatus (s := clearBlocks s) (accounted_of_initial rfl rfl)
  exact accounted_clearEvents (accounted_panelResets (accounted_ite _ cleared (accounted_raise .runState cleared)))

theorem accounted_resetAll (cause : ResetCause) (s : State) : (resetAll cause s).unitsAccounted :=
  accounted_of_initial rfl rfl

theorem accounted_beginStarting (h : s.unitsAccounted) : (beginStarting s).unitsAccounted :=
  accounted_issueRead _ _ _ (accounted_setRunState .starting (accounted_setPau _ h))

theorem accounted_startAccepted (st : Structural) (l : Live) (s : State) : (startAccepted st l s).unitsAccounted := by
  have emptied : (startBlocks (takeSettings st l s)).unitsAccounted := accounted_of_initial rfl rfl
  have closed : (allBenches.foldl (fun u b => closeUnenabled b u) (startBlocks (takeSettings st l s))).unitsAccounted :=
    accounted_foldl (fun _ b _ ht => accounted_ite _ ht (accounted_setBench b _ ht)) emptied
  have running : ∀ p q, (settle (setPau q (setRunState .running (setPau p
      (allBenches.foldl (fun u b => closeUnenabled b u) (startBlocks (takeSettings st l s))))))).unitsAccounted :=
    fun p q => accounted_settle (accounted_setPau q (accounted_setRunState .running (accounted_setPau p closed)))
  exact accounted_ite _ (accounted_settle (accounted_enterDraining (running _ _))) (running _ _)

/-! ### Staffing -/

theorem accounted_headsOf (b : Bench) {f : Port → State → State}
    (hf : ∀ p t, t.unitsAccounted → (f p t).unitsAccounted) (h : s.unitsAccounted) : (headsOf b f s).unitsAccounted :=
  accounted_foldl (fun t p _ => hf p t) h

theorem accounted_staffingActs (b : Bench) (new : Staffing) (h : s.unitsAccounted) :
    (staffingActs b new s).unitsAccounted := by
  simp only [staffingActs]
  split
  · exact h
  · split
    · exact accounted_headsOf b (fun p _ => accounted_darkenHead b p) h
    · exact accounted_headsOf b (fun p _ => accounted_relightHead b p) h
    · exact accounted_cancelCalls _ _ (accounted_headsOf b (fun p _ => accounted_closeHead b p) h)

theorem accounted_changeStaffing (b : Bench) (new : Staffing) (picker : Half) (h : s.unitsAccounted) :
    (changeStaffing b new picker s).unitsAccounted :=
  accounted_raise _ (accounted_staffingActs b new (accounted_setBench b _ h))

/-! ### Sweeps -/

theorem accounted_endSweep (h : s.unitsAccounted) : (endSweep s).unitsAccounted := accounted_ite _ h h

theorem accounted_stage6 (h : s.unitsAccounted) : (stage6 s).unitsAccounted := by
  have written := accounted_writeStatus h
  unfold stage6
  split
  · exact accounted_endSweep (accounted_raise _ (accounted_setPau _ written))
  · exact accounted_endSweep written

theorem accounted_enterStage (g : SweepStage) (h : s.unitsAccounted) : (enterStage g s).unitsAccounted := h

theorem accounted_readOrderFlags (q : PutPos) (h : s.unitsAccounted) : (readOrderFlags q s).unitsAccounted := by
  unfold readOrderFlags
  split
  · exact accounted_ite _ h h
  · exact h

theorem accounted_stage5 (h : s.unitsAccounted) : (stage5 s).unitsAccounted := by
  have read := accounted_foldl (l := allPositions) (fun _ q _ => accounted_readOrderFlags q) h
  simp only [stage5]
  exact accounted_ite _ (accounted_enterStage _ read) (accounted_stage6 read)

theorem accounted_stage4 (h : s.unitsAccounted) : (stage4 s).unitsAccounted := by
  have read := accounted_foldl (l := s.held)
    (f := fun u c => issueRead (.cardFlags c.card c.seq) (u.cardAddr c.card + 0x01) 1 u)
    (fun _ _ _ => accounted_issueRead _ _ _) h
  exact accounted_ite _ (accounted_enterStage _ read) (accounted_stage5 read)

theorem accounted_readStarved (b : Bench) (h : s.unitsAccounted) : (readStarved b s).unitsAccounted := by
  simp only [readStarved]
  split
  · split <;> exact h
  · exact h

theorem accounted_stage3 (h : s.unitsAccounted) : (stage3 s).unitsAccounted := by
  have read := accounted_ite (s.pau.runState = .running)
    (accounted_foldl (l := allBenches) (fun _ b _ => accounted_readStarved b) h) h
  exact accounted_ite _ (accounted_enterStage _ read) (accounted_stage4 read)

theorem accounted_flush (h : s.unitsAccounted) : (flush s).unitsAccounted := by
  unfold flush
  split <;> exact h

theorem accounted_advanceSweep (h : s.unitsAccounted) : (advanceSweep s).unitsAccounted := by
  unfold advanceSweep
  split
  · exact h
  · split
    · exact h
    · split
      · exact accounted_stage3 (accounted_flush h)
      · exact accounted_stage3 (accounted_flush h)
      · exact accounted_stage4 h
      · exact accounted_stage5 h
      · exact accounted_stage6 h

theorem accounted_liveReturned (l : Live) (h : s.unitsAccounted) : (liveReturned l s).unitsAccounted :=
  accounted_ite _ (accounted_findSignals true (accounted_setPau _ h))
    (accounted_report _ (accounted_raise _ (accounted_setPau _ h)))

/-! ### The steps of a take -/

theorem accounted_indexCheck (b : Bench) (i : Nat) (h : s.unitsAccounted) : (indexCheck b i s).unitsAccounted :=
  accounted_ite _ (accounted_issueRead _ _ _ (accounted_setChain b _ h)) (accounted_setChain b _ (accounted_report _ h))

theorem accounted_linkReturned (b : Bench) (value : Half) (h : s.unitsAccounted) :
    (linkReturned b value s).unitsAccounted :=
  accounted_ite _ (accounted_ite _ (accounted_setChain b _ h) (accounted_indexCheck b _ h)) (accounted_setChain b _ h)

theorem accounted_starvedReturned (b : Bench) (atAnchor : Bool) (cursor : Option Nat) (value : Half)
    (h : s.unitsAccounted) : (starvedReturned b atAnchor cursor value s).unitsAccounted :=
  accounted_ite _ (accounted_indexCheck b _ (accounted_setChain b _ h)) h

/-- R43: the card that joins a staging list has every unit remaining. -/
theorem accounted_acceptCard (card : Nat) (b : Bench) (cls : CardClass) (k : CardBytes) (h : s.unitsAccounted) :
    (acceptCard card b cls k s).unitsAccounted :=
  accounted_setStaged (s := { s with cdm := { s.cdm with takeSeq := s.cdm.takeSeq + 1 } })
    (List.forall_mem_append.mpr
      ⟨fun _ => accounted_staged h, List.forall_mem_singleton.mpr (k.accounted_context card _ b cls _)⟩) h

theorem accounted_finishAtTake (card : Nat) (k : CardBytes) (r : CardResult) (lr : LineResult)
    (h : s.unitsAccounted) : (finishAtTake card k r lr s).unitsAccounted := accounted_writeDone card _ h

theorem accounted_checkCard (card : Nat) (b : Bench) (k : CardBytes) (h : s.unitsAccounted) :
    (checkCard card b k s).unitsAccounted := by
  have finished := fun r lr => accounted_finishAtTake card k r lr h
  refine accounted_ite _ (accounted_report _ (finished _ _)) (accounted_ite _ (accounted_report _ (finished _ _))
    (accounted_ite _ (finished _ _) (accounted_ite _ (finished _ _) ?_)))
  split
  · exact accounted_acceptCard card b _ k h
  · exact h

theorem accounted_cardReturned (b : Bench) (card : Nat) (data : List Byte) (h : s.unitsAccounted) :
    (cardReturned b card data s).unitsAccounted := by
  have taken : (beginTaking card b s).unitsAccounted := h
  exact accounted_ite _ (accounted_ite _ (accounted_setChain b _ h) (accounted_checkCard card b _ taken))
    (accounted_setChain b _ h)

/-! ### Withdrawal and the ends of reads -/

theorem accounted_withdrawTaking (card : Nat) (seq : Word) (h : s.unitsAccounted) :
    (withdrawTaking card seq s).unitsAccounted := by
  have marked := accounted_updateTaking card seq (f := fun x => { x with withdrawn := true }) (fun _ => rfl) h
  unfold withdrawTaking
  split
  · exact h
  · refine accounted_ite _ h (accounted_ite _ (accounted_finishStaged _ _ _ marked) ?_)
    exact accounted_foldl (fun _ p _ => accounted_withdrawHead card seq p) (accounted_cancelCalls _ _ marked)

theorem accounted_cardFlagsReturned (card : Nat) (seq : Word) (flags : Byte) (h : s.unitsAccounted) :
    (cardFlagsReturned card seq flags s).unitsAccounted := accounted_ite _ (accounted_withdrawTaking card seq h) h

theorem accounted_orderFlagsReturned (q : PutPos) (held : Bool) (flags : Byte) (h : s.unitsAccounted) :
    (orderFlagsReturned q held flags s).unitsAccounted := accounted_ite _ (accounted_closeRequested q h) h

theorem accounted_endRead (id : Nat) (h : s.unitsAccounted) : (endRead id s).unitsAccounted := h

theorem accounted_busError (id : Nat) (h : s.unitsAccounted) : (busError id s).unitsAccounted := by
  unfold busError
  split
  · exact h
  next r _ =>
    have reported := accounted_report r.purpose.busReport (accounted_endRead id h)
    exact accounted_ite _ (accounted_endRead id h)
      (accounted_enterFaulted (accounted_ite _ (accounted_setPau _ reported) reported))

theorem accounted_withRead {α : Type} (id : Nat) (kind : ReadFor → Option α) {k : α → State → State}
    (hk : ∀ a t, t.unitsAccounted → (k a t).unitsAccounted) (h : s.unitsAccounted) :
    (withRead id kind k s).unitsAccounted := by
  unfold withRead
  split
  · exact h
  · split
    · exact h
    · exact accounted_ite _ (accounted_endRead id h) (hk _ _ (accounted_endRead id h))

theorem accounted_settingsReturned (data : List Byte) (h : s.unitsAccounted) : (settingsReturned data s).unitsAccounted :=
  accounted_ite _ (accounted_startAccepted _ _ _) (accounted_enterFaulted (accounted_setPau _ (accounted_setPau _ h)))

theorem accounted_stampReturned (stamp : Word) (h : s.unitsAccounted) : (stampReturned stamp s).unitsAccounted :=
  accounted_ite _ h (accounted_enterStage _ (accounted_issueRead _ _ _ (accounted_setPau _ h)))

/-! ### The Grid Link -/

theorem accounted_gridLinkUp (h : s.unitsAccounted) : (gridLinkUp s).unitsAccounted := by
  have up := accounted_raise .gridLink (accounted_setGridLink { s.glc.link with up := true } h)
  exact accounted_ite _ (accounted_settle (accounted_resumeHolds (accounted_inquireAll up))) up

theorem accounted_gridGood (payload : Nat) (h : s.unitsAccounted) : (gridGood payload s).unitsAccounted :=
  accounted_ite _ (accounted_setGridLink _ h) (accounted_gridLinkUp (accounted_setGridLink _ h))

theorem accounted_gridMessageTaken (payload : Nat) {k : State → State}
    (hk : ∀ t, t.unitsAccounted → (k t).unitsAccounted) (h : s.unitsAccounted) :
    (gridMessageTaken payload k s).unitsAccounted :=
  accounted_ite _ (hk _ (accounted_gridGood payload h)) (accounted_gridGood payload h)

theorem accounted_gridProtocol (port : Option Byte) (tag : Option Word) (h : s.unitsAccounted) :
    (gridProtocol port tag s).unitsAccounted := accounted_report _ h

/-- R161: the call that a message names stands in the call table, so its card is accounted for. -/
theorem accounted_forCall (call : Half) {k : Call → State → State}
    (hk : ∀ (c : Call) t, c.card.accounted → t.unitsAccounted → (k c t).unitsAccounted) (h : s.unitsAccounted) :
    (forCall call k s).unitsAccounted := by
  unfold forCall
  split
  · exact accounted_gridProtocol _ _ h
  next c found => exact hk c s (accounted_findCall h found) h

theorem accounted_forPort (port : Byte) (tag : Word) {k : Port → State → State}
    (hk : ∀ p t, t.unitsAccounted → (k p t).unitsAccounted) (h : s.unitsAccounted) :
    (forPort port tag k s).unitsAccounted := by
  unfold forPort
  split
  · exact accounted_gridProtocol _ _ h
  · exact accounted_ite _ (hk _ _ h) (accounted_gridProtocol _ _ h)

theorem mem_of_arrivalCall {p : Port} {tag : Word} {c : Call} (found : s.arrivalCall p tag = some c) :
    c ∈ s.lnc.calls := by
  simp only [State.arrivalCall] at found
  split at found
  next d here =>
    cases found
    exact (List.mem_filter.mp (List.mem_of_find?_eq_some here)).left
  · exact (List.mem_filter.mp (List.mem_of_mem_head? found)).left

/-- R94, R95: the lane entry of an arrival takes the lines of the call's card as they stand. -/
theorem accounted_arriveCard {c : Call} (p : Port) (kind : EntryKind) (hc : c.card.accounted) (h : s.unitsAccounted) :
    (arriveCard c p kind s).unitsAccounted := by
  have card : ({ c.card with
      timeArrived := some s.clock
      lateArrival := c.card.lateArrival || c.transitExpired
      adopted := c.card.adopted || kind == .adopted } : CardCtx).accounted := CardCtx.accounted_of_lines rfl hc
  have joined := accounted_joinLane (p := p) (e := { tag := c.card.tag, card := some _, kind := kind, state := .queued })
    (fun _ same => by cases same; exact card) (accounted_removeCall c.number h)
  exact accounted_ite _ joined (accounted_startExposure _ p (s := moveExposure _ p _) joined)

theorem accounted_stranger (p : Port) (tag : Word) (h : s.unitsAccounted) :
    (joinLane p (stranger tag) s).unitsAccounted := accounted_joinLane (fun _ same => nomatch same) h

theorem accounted_misroute (c : Call) (p : Port) (h : s.unitsAccounted) : (misroute c p s).unitsAccounted :=
  accounted_stranger p _ (accounted_count _ (accounted_report _ (accounted_returnCard _ (accounted_removeCall c.number h))))

theorem accounted_arrivedAt (p : Port) (tag : Word) (h : s.unitsAccounted) : (arrivedAt p tag s).unitsAccounted := by
  unfold arrivedAt
  split
  · exact accounted_gridProtocol _ _ h
  · split
    · exact accounted_report _ h
    · split
      · exact accounted_settle (accounted_lookup tag _ (accounted_stranger p tag h))
      next c found =>
        have card := accounted_call h (mem_of_arrivalCall found)
        have arrived := fun kind => accounted_settle (accounted_arriveCard p kind card h)
        have strayed := accounted_settle (accounted_misroute c p h)
        exact accounted_ite _ (arrived _) (accounted_ite _ (arrived _) strayed)

theorem accounted_dockedAt (p : Port) (tag : Word) (h : s.unitsAccounted) : (dockedAt p tag s).unitsAccounted := by
  unfold dockedAt
  split
  · exact accounted_ite _ (accounted_ite _ (accounted_settle (accounted_dockHead p h)) h) (accounted_gridProtocol _ _ h)
  · exact accounted_gridProtocol _ _ h

theorem accounted_departHead (p : Port) (e : Entry) (h : s.unitsAccounted) : (departHead p e s).unitsAccounted := by
  have left := accounted_setLane (p := p) (l := (s.lane p).tail)
    (fun _ mem => accounted_entry h (List.mem_of_mem_tail mem)) h
  unfold departHead
  split
  · exact accounted_returnCard _ left
  · exact left

theorem accounted_departedAt (p : Port) (tag : Word) (h : s.unitsAccounted) : (departedAt p tag s).unitsAccounted := by
  unfold departedAt
  split
  · exact accounted_gridProtocol _ _ h
  next e _ =>
    have departed := accounted_departHead p e h
    split
    · exact accounted_gridProtocol _ _ h
    · split
      · exact accounted_settle (accounted_endTenure _ departed)
      · exact accounted_settle (accounted_gridProtocol _ _ (accounted_withdrawTarget _ (accounted_setMga _ departed)))
      · exact accounted_settle departed
      · exact accounted_gridProtocol _ _ h

theorem accounted_recircCleared (h : s.unitsAccounted) : (recircCleared s).unitsAccounted :=
  accounted_ite _ (accounted_settle (accounted_endTenure _ h)) (accounted_ite _ (accounted_setMga _ h)
    (accounted_ite _ (accounted_settle (accounted_withdrawTarget _ (accounted_setMga _ h)))
      (accounted_gridProtocol _ _ h)))

theorem accounted_returnHoldTaken (q : Half) (h : s.unitsAccounted) : (returnHoldTaken q s).unitsAccounted :=
  accounted_ite _ (accounted_settle (accounted_setMga _ (accounted_count _ h))) (accounted_count _ h)

theorem accounted_execGridLinkDown (h : s.unitsAccounted) :
    AccountedOut (execGridLinkDown s) := by
  refine .next ?_
  have down := accounted_raise .gridLink (accounted_setGridLink { s.glc.link.clearQueue with up := false } h)
  have doubted := accounted_mapCalls (f := fun c => { c with state := .uncertain, timer := .none }) (fun _ => rfl) down
  exact accounted_ite _ (accounted_ite _ (accounted_settle (accounted_lapseHolds doubted)) down) h

/-! ### The Bench Links and the panels -/

theorem accounted_benchGood (b : Bench) (payload : Nat) (h : s.unitsAccounted) : (benchGood b payload s).unitsAccounted :=
  accounted_ite _ (accounted_setBench b _ h)
    (accounted_panelReset b (accounted_raise _ (accounted_setBench b _ (accounted_setBench b _ h))))

theorem accounted_takePanel (b : Bench) (ty : PanelType) (port p : Byte) (inRange : Bool) {k : State → State}
    (hk : ∀ t, t.unitsAccounted → (k t).unitsAccounted) (h : s.unitsAccounted) :
    (takePanel b ty port p inRange k s).unitsAccounted := by
  have ticketed : (nextTicket b (benchGood b ty.payload s)).unitsAccounted :=
    accounted_setBench b _ (accounted_benchGood b _ h)
  simp only [takePanel]
  split
  · exact accounted_ite _ (hk _ (accounted_setBench b _ (accounted_answer b _ ticketed))) (accounted_benchHand b _ ticketed)
  · split
    · exact accounted_benchHand b _ ticketed
    · exact hk _ (accounted_setBench b _ ticketed)

theorem accounted_staffingMessage (b : Bench) (takes : Bool) (new : Staffing) (picker : Half) (h : s.unitsAccounted) :
    (staffingMessage b takes new picker s).unitsAccounted :=
  accounted_ite _ (accounted_settle (accounted_answer b _ (accounted_changeStaffing b new picker h)))
    (accounted_answer b _ h)

theorem accounted_forPosition (b : Bench) (p : Byte) {k : PutPos → State → State}
    (hk : ∀ q t, t.unitsAccounted → (k q t).unitsAccounted) (h : s.unitsAccounted) :
    (forPosition b p k s).unitsAccounted := by
  unfold forPosition
  split
  · exact hk _ _ h
  · exact h

theorem accounted_placeAt (b : Bench) (tag : Word) (q : PutPos) (h : s.unitsAccounted) :
    (placeAt b tag q s).unitsAccounted :=
  have refused : ∀ r, (answer b r s).unitsAccounted := fun r => accounted_answer b r h
  accounted_ite _ (refused _) (accounted_ite _ (refused _) (accounted_ite _ (refused _)
    (accounted_settle (accounted_lookup tag _ (accounted_setPosition q _ h)))))

theorem accounted_fullAt (b : Bench) (q : PutPos) (h : s.unitsAccounted) : (fullAt b q s).unitsAccounted := by
  unfold fullAt
  split
  · exact accounted_settle (accounted_answer b _ (accounted_stopAccepting q _ h))
  · exact accounted_answer b _ h
  · exact accounted_answer b _ h
  · exact accounted_answer b _ h

theorem accounted_pickEffects (p : Port) (l : Line) (qty : Nat) (h : s.unitsAccounted) :
    (pickEffects p l qty s).unitsAccounted := by
  have reported := accounted_reportUnits l.order qty h
  have dark := accounted_of_eq (unshowLine_cdm p l _) (unshowLine_lnc p l _) reported
  exact accounted_ite _ (accounted_showLine p _ reported) (accounted_settleEntry p (accounted_reportLine _ dark))

/-- R102: an accepted pick changes the line at the position and no other. -/
theorem accounted_acceptPick (p : Port) {e : Entry} {c : CardCtx} (q : PutPos) (l : Line) (qty : Nat) (hc : c.accounted)
    (h : s.unitsAccounted) : (acceptPick p e c q l qty s).unitsAccounted :=
  have picked := CardCtx.accounted_mapIf (Line.openAt q) (fun _ => Line.accounted_pick qty) hc
  accounted_pickEffects p l qty (accounted_setHeadCard picked h)

theorem accounted_pickAt (b : Bench) (port : Byte) (qty : Nat) (q : PutPos) (h : s.unitsAccounted) :
    (pickAt b port qty q s).unitsAccounted := by
  unfold pickAt
  split
  · exact accounted_answer b _ h
  next e c found =>
    obtain ⟨r, -, head⟩ := Option.bind_eq_some_iff.mp found
    have card := accounted_headCard h head
    have presenting : ∀ p, (pickPresenting b p e c q qty s).unitsAccounted := by
      intro p
      unfold pickPresenting
      split
      · exact accounted_answer b _ h
      next l _ =>
        have picked := accounted_acceptPick p (e := e) q l qty card h
        exact accounted_ite _ (accounted_answer b _ h) (accounted_settle (accounted_answer b _ picked))
    refine accounted_ite _ (accounted_answer b _ h) ?_
    split
    · exact accounted_answer b _ h
    · exact accounted_ite _ (presenting _) (accounted_answer b _ h)

theorem accounted_endBenchLines (b : Bench) (lr : LineResult) {told : Port → CardCtx → Nat → State → State} (port : Byte)
    (ht : ∀ p c n t, t.unitsAccounted → (told p c n t).unitsAccounted) (h : s.unitsAccounted) :
    (endBenchLines b lr told port s).unitsAccounted := by
  unfold endBenchLines
  split
  · exact accounted_answer b _ h
  · exact accounted_ite _ (accounted_answer b _ h) (accounted_settle (accounted_answer b _ (accounted_settleEntry _
      (ht _ _ _ _ (accounted_resolveHead _ _ _ h)))))

theorem accounted_execBenchLinkDown (b : Bench) (h : s.unitsAccounted) :
    AccountedOut (execBenchLinkDown b s) := by
  refine .next ?_
  have down := accounted_raise .benchLink (accounted_setBench b
    { s.bench b with link := { (s.bench b).link.clearQueue with up := false }, awaited := none } h)
  exact accounted_ite _ (accounted_ite _ down (accounted_settle (accounted_changeStaffing b _ _ down))) h

/-! ### Registers and time -/

theorem accounted_controlWrite (value : Word) (h : s.unitsAccounted) : (controlWrite value s).unitsAccounted := by
  have loaded := accounted_findSignals s.live.suppressPrior (accounted_setPau
    { s.pau with run := value.getLsbD 0, noticeEnable := value.getLsbD 2 } h)
  refine accounted_ite _ (accounted_clearAll s) ?_
  split
  · exact accounted_ite _ (accounted_beginStarting loaded) loaded
  · exact accounted_setPau _ loaded
  · exact accounted_ite _ (accounted_settle (accounted_enterDraining loaded)) loaded
  · exact loaded

theorem accounted_execEdition (value : Word) (h : s.unitsAccounted) :
    AccountedOut (execEdition value s) := by
  refine .next ?_
  refine accounted_ite _ ?_ (accounted_setPau _ h)
  split <;> exact h

theorem accounted_execTimedSweepTimerExpiry (h : s.unitsAccounted) :
    AccountedOut (execTimedSweepTimerExpiry s) := by
  refine .next ?_
  refine accounted_ite _ ?_ h
  split
  · exact accounted_stage3 (accounted_setPau _ (accounted_setPau _ h))
  · exact h

theorem accounted_takeTimed (e : TimedEvent) (h : s.unitsAccounted) : (takeTimed e s).unitsAccounted := by
  refine accounted_ite _ ?_ h
  split
  · exact accounted_findLate _ h
  · split
    · exact accounted_warnRecord _ _ h
    · exact h
  · split
    · exact accounted_compareRecord _ _ h
    · exact h
  · split
    · exact accounted_ite _ h (accounted_finishStaged _ _ _ h)
    · exact h

theorem accounted_timedEvent (e : TimedEvent) (h : s.unitsAccounted) : (timedEvent e s).unitsAccounted :=
  accounted_ite _ (accounted_settle (accounted_takeTimed e h)) h

theorem accounted_countTimers (h : s.unitsAccounted) : (countTimers s).unitsAccounted :=
  accounted_mapCalls (f := fun c => { c with transit := c.transit.map (fun n => n - 1) }) (fun _ => rfl) h

theorem accounted_execFloorClockAdvance (apart : List TimedEvent) (h : s.unitsAccounted) :
    AccountedOut (execFloorClockAdvance apart s) := by
  refine .next ?_
  have passed : (secondPasses s).unitsAccounted := accounted_countTimers (accounted_setPau _ h)
  exact accounted_ite _ (accounted_settle (accounted_foldl (fun _ e _ => accounted_takeTimed e) passed)) h

theorem accounted_callTimer (n : Nat) (runs : Call → Bool) {k : Call → State → State}
    (hk : ∀ (c : Call) t, c.card.accounted → t.unitsAccounted → (k c t).unitsAccounted) (h : s.unitsAccounted) :
    (callTimer n runs k s).unitsAccounted := by
  unfold callTimer
  split
  · exact h
  next c found => exact accounted_ite _ (accounted_settle (hk c s (accounted_findCall h found) h)) h

/-- R111: the card of a STUCK head has left its entry for the host. -/
theorem accounted_timedOutHolder (r : Requester) (h : s.unitsAccounted) : (timedOutHolder r s).unitsAccounted := by
  cases r with
  | recirc => exact accounted_report _ (accounted_setMga _ h)
  | port p =>
    simp only [timedOutHolder]
    split
    · exact h
    next e _ =>
      have stuck := accounted_setHead (p := p) (e := { e with card := none, state := .stuck }) (fun _ same => nomatch same) h
      refine accounted_report _ ?_
      split
      · exact accounted_returnCard _ stuck
      · exact stuck

theorem accounted_execTenureTimeout (h : s.unitsAccounted) :
    AccountedOut (execTenureTimeout s) := by
  refine .next ?_
  split
  · exact accounted_ite _ (accounted_settle (accounted_count _ (accounted_timedOutHolder _ (accounted_openMerge _ h)))) h
  · exact h

theorem accounted_execGateSwingEnd (h : s.unitsAccounted) :
    AccountedOut (execGateSwingEnd s) := by
  refine .next ?_
  split
  · exact accounted_ite _ (accounted_settle (accounted_ite _ (accounted_openMerge _ h) (accounted_setMga _ h))) h
  · exact h

theorem accounted_tick (h : s.unitsAccounted) : (tick s).unitsAccounted := by
  have timers : (tickTimers s).unitsAccounted :=
    accounted_mapCalls (f := fun c => { c with timer := c.timer.tick }) (fun _ => rfl) h
  exact accounted_ite (s.active = true) timers h

/-! ### Every command -/

/-- Each command accounts for every unit. -/
theorem accounted_exec (c : Instr) (h : s.unitsAccounted) :
    AccountedOut (exec c s) := by
  cases c with
  | run v => exact .next (accounted_controlWrite v h)
  | clear v => exact .next (accounted_controlWrite v h)
  | noticeEnable v => exact .next (accounted_controlWrite v h)
  | areaLo v => exact .next (accounted_ite _ (accounted_setPau _ h) h)
  | areaHi v => exact .next (accounted_ite _ (accounted_setPau _ h) h)
  | edition v => exact accounted_execEdition v h
  | events v => exact .next (accounted_findSignals false h)
  | eventMask v => exact .next (accounted_findSignals _ h)
  | registerWriteDiscarded off en v => exact .next h
  | powerOnReset => exact .next (accounted_resetAll _ s)
  | busReset => exact .next (accounted_resetAll _ s)
  | settingsReadReturn id data =>
    exact .ofLength _ _ (accounted_withRead id _ (fun _ _ => accounted_settingsReturned data) h)
  | readBusError id => exact .next (accounted_busError id h)
  | readTimeout id => exact .next (accounted_busError id h)
  | stampReadReturn id stamp =>
    exact .next (accounted_withRead id _ (fun _ _ ht => accounted_advanceSweep (accounted_stampReturned stamp ht)) h)
  | liveSettingsReadReturn id data =>
    exact .ofLength _ _ (accounted_withRead id _
      (fun _ _ ht => accounted_advanceSweep (accounted_settle (accounted_liveReturned _ ht))) h)
  | starvedChainReadReturn id v =>
    exact .next (accounted_withRead id _
      (fun _ _ ht => accounted_advanceSweep (accounted_settle (accounted_starvedReturned _ _ _ v ht))) h)
  | cardFlagsReadReturn id f =>
    exact .next (accounted_withRead id _
      (fun _ _ ht => accounted_advanceSweep (accounted_settle (accounted_cardFlagsReturned _ _ f ht))) h)
  | orderFlagsReadReturn id f =>
    exact .next (accounted_withRead id _
      (fun _ _ ht => accounted_advanceSweep (accounted_settle (accounted_orderFlagsReturned _ _ f ht))) h)
  | linkStepReadReturn id v =>
    exact .next (accounted_withRead id _ (fun b _ ht => accounted_settle (accounted_linkReturned b v ht)) h)
  | cardReadReturn id data =>
    exact .ofLength _ _ (accounted_withRead id _ (fun _ _ ht => accounted_settle (accounted_cardReturned _ _ data ht)) h)
  | tagTableReadReturn id w =>
    exact .next (accounted_withRead id _ (fun _ _ ht => accounted_settle (accounted_tagReturned w ht)) h)
  | orderRecordReadReturn id data =>
    exact .ofLength _ _ (accounted_withRead id _
      (fun _ _ ht => accounted_settle (accounted_orderRecordReturned _ _ data ht)) h)
  | timedSweepTimerExpiry => exact accounted_execTimedSweepTimerExpiry h
  | floorClockAdvance apart => exact accounted_execFloorClockAdvance apart h
  | deadlinePassed q => exact .next (accounted_timedEvent _ h)
  | exposureWarning card => exact .next (accounted_timedEvent _ h)
  | exposureRecall card => exact .next (accounted_timedEvent _ h)
  | readyWaitPasses card => exact .next (accounted_timedEvent _ h)
  | answerTimerExpiry n => exact .next (accounted_callTimer n _ (fun _ _ => accounted_busyRefusal) h)
  | retryGapExpiry n => exact .next (accounted_callTimer n _ (fun _ _ => accounted_resendCall) h)
  | inquiryTimerExpiry n => exact .next (accounted_callTimer n _ (fun _ _ => accounted_inquiryExpiry) h)
  | transitTimeout n => exact .next (accounted_callTimer n _ (fun _ _ => accounted_transitExpiry) h)
  | tenureTimeout => exact accounted_execTenureTimeout h
  | gateSwingEnd => exact accounted_execGateSwingEnd h
  | returnHoldEnd => exact .next (accounted_ite _ (accounted_settle (accounted_setMga _ h)) h)
  | dispatchHoldRefresh p => exact .next (accounted_ite _ (accounted_sendHold p h) h)
  | holdExpiry p => exact .next (accounted_ite _ (accounted_setHold p _ h) h)
  | gridLinkDown => exact accounted_execGridLinkDown h
  | gridIdleLineCheck => exact .next (accounted_setGridLink _ h)
  | gridFrameSent => exact .next (accounted_ite _ (accounted_setGridLink _ h) h)
  | gridFrameGapTimeout bytes => exact .next (accounted_ite _ (accounted_count _ (accounted_setGridLink _ h)) h)
  | gridFrameError bytes => exact .next (accounted_ite _ (accounted_count _ (accounted_setGridLink _ h)) h)
  | gridLineCheck => exact .next (accounted_gridGood 0 h)
  | callAccept n =>
    exact .next (accounted_gridMessageTaken 2
      (fun _ => accounted_forCall n (fun _ _ hc ht => accounted_settle (accounted_acceptAnswer hc ht))) h)
  | callRefuse n r =>
    exact .next (accounted_gridMessageTaken 3 (fun _ => accounted_forCall n (fun _ _ hc ht =>
      accounted_ite _ (accounted_settle (accounted_refuseAnswer _ hc (accounted_count _ ht)))
        (accounted_gridProtocol _ _ ht))) h)
  | dispatched n =>
    exact .next (accounted_gridMessageTaken 2
      (fun _ => accounted_forCall n (fun _ _ hc ht => accounted_settle (accounted_dispatchedAnswer hc ht))) h)
  | callStatus n status =>
    exact .next (accounted_gridMessageTaken 3 (fun _ => accounted_forCall n (fun _ _ hc ht =>
      accounted_ite _ (accounted_settle (accounted_statusAnswer _ hc ht)) (accounted_gridProtocol _ _ ht))) h)
  | arrived port tag =>
    exact .next (accounted_gridMessageTaken 6 (fun _ => accounted_forPort port tag (fun p _ => accounted_arrivedAt p tag)) h)
  | docked port tag =>
    exact .next (accounted_gridMessageTaken 6 (fun _ => accounted_forPort port tag (fun p _ => accounted_dockedAt p tag)) h)
  | departed port tag =>
    exact .next (accounted_gridMessageTaken 6 (fun _ => accounted_forPort port tag (fun p _ => accounted_departedAt p tag)) h)
  | recircRequest =>
    exact .next (accounted_gridMessageTaken 0 (fun _ ht => accounted_settle (accounted_setMga _ ht)) h)
  | recircClear => exact .next (accounted_gridMessageTaken 0 (fun _ => accounted_recircCleared) h)
  | returnHold q => exact .next (accounted_gridMessageTaken 2 (fun _ => accounted_returnHoldTaken q) h)
  | benchLinkDown b => exact accounted_execBenchLinkDown b h
  | benchIdleLineCheck b => exact .next (accounted_setBench b _ h)
  | benchFrameSent b => exact .next (accounted_ite _ (accounted_setBench b _ h) h)
  | benchFrameGapTimeout b bytes => exact .next (accounted_ite _ (accounted_count _ (accounted_setBench b _ h)) h)
  | benchFrameError b bytes => exact .next (accounted_ite _ (accounted_count _ (accounted_setBench b _ h)) h)
  | benchLineCheck b => exact .next (accounted_benchGood b 0 h)
  | signOn b picker => exact .next (accounted_takePanel b _ _ _ _ (fun _ => accounted_staffingMessage b _ _ _) h)
  | signOff b => exact .next (accounted_takePanel b _ _ _ _ (fun _ => accounted_staffingMessage b _ _ _) h)
  | breakOff b => exact .next (accounted_takePanel b _ _ _ _ (fun _ => accounted_staffingMessage b _ _ _) h)
  | back b => exact .next (accounted_takePanel b _ _ _ _ (fun _ => accounted_staffingMessage b _ _ _) h)
  | place b p tag =>
    exact .next (accounted_takePanel b _ _ _ _ (fun _ => accounted_forPosition b p (fun q _ => accounted_placeAt b tag q)) h)
  | remove b p =>
    exact .next (accounted_takePanel b _ _ _ _ (fun _ => accounted_forPosition b p
      (fun q _ ht => accounted_settle (accounted_answer b _ (accounted_removeAt q ht)))) h)
  | full b p =>
    exact .next (accounted_takePanel b _ _ _ _ (fun _ => accounted_forPosition b p (fun q _ => accounted_fullAt b q)) h)
  | pick b port p qty =>
    exact .next (accounted_takePanel b _ _ _ _
      (fun _ => accounted_forPosition b p (fun q _ => accounted_pickAt b port _ q)) h)
  | short b port =>
    exact .next (accounted_takePanel b _ _ _ _
      (fun _ => accounted_endBenchLines b _ port (fun _ _ _ _ ht => accounted_count _ (accounted_report _ ht))) h)
  | toteDone b port =>
    exact .next (accounted_takePanel b _ _ _ _
      (fun _ => accounted_endBenchLines b _ port (fun _ _ _ _ ht => accounted_count _ ht)) h)

/-- Settles O59: an idle step and every command keep picked, remaining and shortfall of each held line equal to its quantity. -/
theorem everyStepAccountsForEveryUnit : Obligations.EveryStepAccountsForEveryUnit := by
  intro s t h e
  unfold step at e
  split at e
  next idle => cases e; exact accounted_tick h
  next c rest _ => exact accounted_exec (s := { s with pending := rest }) c h t e

/-! ### Reset (O60) -/

/-- Table 1-1: AREA_LO is 0; no lookup, message or grant is counted. -/
theorem bounded_reset : State.reset.bounded := bounded_resetAll .powerOn State.reset

/-- R72: every put position is EMPTY. -/
theorem reset_position (q : PutPos) : State.reset.position q = Position.empty := by
  simp [State.reset, State.position]

theorem ordersApart_reset : State.reset.ordersApart := by
  refine ⟨fun q r j held => ?_, fun q _ => ?_⟩
  · rw [reset_position] at held
    exact nomatch held
  · rw [reset_position]
    rfl

/-- Settles O60. -/
theorem resetMeetsTheInvariants : Obligations.ResetMeetsTheInvariants :=
  ⟨bounded_reset, ordersApart_reset, accounted_of_initial rfl rfl⟩

end Sys2Proof.Machine
end

section
/-! SUPPORT. The steps of a take: the link step (O21) and the card step (O22). -/

namespace Sys2Proof.Machine

/-! ### The link step (O21) -/

theorem exec_linkStepReadReturn {s : State} {id : Nat} {b : Bench} {cur : Option Nat} (value : Half)
    (h : s.reading id (.linkStep b cur)) :
    exec (.linkStepReadReturn id value) s = .next (settle (linkReturned b value (endRead id s))) :=
  congrArg Host.Outcome.next (withRead_reading h rfl)

/-- R35: a take that ends with the chain starved. -/
theorem starve_eq (b : Bench) (s : State) : starve b s = setChain b { s.chain b with
    state := if (s.chain b).cursor.isNone then .starvedAtAnchor else .starvedAtLink, takeInFlight := false } s := rfl

@[simp] theorem report_chain (r : Report) (b : Bench) (s : State) : (report r s).chain b = s.chain b := by
  rw [State.chain, report_cdm, State.chain]

/-- R38: an index that passes its check asks for the card's read. -/
theorem indexCheck_below {s : State} {i : Nat} (b : Bench) (below : i < s.st.cardCount) : indexCheck b i s =
    issueRead (.cardStep b i) (s.cardAddr i) 64 (setChain b { s.chain b with takeInFlight := true } s) := if_pos below

/-- R38: an index at or above the card count is reported, and the chain is starved. -/
theorem indexCheck_above {s : State} {i : Nat} (b : Bench) (above : s.st.cardCount ≤ i) : indexCheck b i s =
    setChain b { s.chain b with
        state := if (s.chain b).cursor.isNone then .starvedAtAnchor else .starvedAtLink, takeInFlight := false }
      (report { kind := .badCard, bench := some b, card := some i } s) := by
  rw [indexCheck, if_neg (Nat.not_lt.mpr above), starve_eq, report_chain]

/-! R38, R45: the three things a link step does with its data. -/

section
variable {s : State} {b : Bench} {value : Half}

theorem linkReturned_noCard (running : s.pau.runState = .running) (absent : value = 0xFFFF) :
    linkReturned b value s = starve b s := (if_pos running).trans (if_pos absent)

theorem linkReturned_card (running : s.pau.runState = .running) (card : value ≠ 0xFFFF) :
    linkReturned b value s = indexCheck b value.toNat s := (if_pos running).trans (if_neg card)

theorem linkReturned_notRunning (other : s.pau.runState ≠ .running) :
    linkReturned b value s = setChain b { s.chain b with takeInFlight := false } s := if_neg other

end

/-- Settles O21. -/
theorem linkStepAndIndexCheck : Obligations.LinkStepAndIndexCheck := by
  intro s id b cur value reading t starved
  rw [exec_linkStepReadReturn value reading]
  refine ⟨fun running absent => ?_, fun running card above => ?_, fun running card below => ?_, fun other => ?_⟩
  · rw [linkReturned_noCard (s := t) running absent]
    rfl
  · rw [linkReturned_card (s := t) running card, indexCheck_above (s := t) b above]
    rfl
  · rw [linkReturned_card (s := t) running card, indexCheck_below (s := t) b below]
    rfl
  · rw [linkReturned_notRunning (s := t) other]
    rfl

/-! ### The card step (O22) -/

theorem exec_cardReadReturn {s : State} {id card : Nat} {b : Bench} {data : List Byte} (length : data.length = 64)
    (h : s.reading id (.cardStep b card)) :
    exec (.cardReadReturn id data) s = .next (settle (cardReturned b card data (endRead id s))) :=
  (if_pos length).trans (congrArg Host.Outcome.next (withRead_reading (a := (b, card)) h (by rfl)))

/-- R39: a card that is not POSTED or that the part holds already. -/
theorem cardReturned_premature {s : State} {b : Bench} {card : Nat} {data : List Byte}
    (running : s.pau.runState = .running) (premature : (parseCard data).state ≠ 1 ∨ s.holdsCard card = true) : cardReturned b card data s = starve b s :=
  (if_pos running).trans (if_pos premature)

/-- R39, R40: the taking of a POSTED card begins, then its checks are made. -/
theorem cardReturned_taken {s : State} {b : Bench} {card : Nat} {data : List Byte} (running : s.pau.runState = .running)
    (posted : (parseCard data).state = 1) (free : s.holdsCard card = false) :
    cardReturned b card data s = checkCard card b (parseCard data) (beginTaking card b s) :=
  (if_pos running).trans (if_neg (by simp [posted, free, statePosted]))

/-! R40 to R43: the first check of a card that does not pass decides what becomes of it. -/

section
variable {s : State} {card : Nat} {b : Bench} {k : CardBytes}

theorem checkCard_checkFail (bad : k.checkOk = false) : checkCard card b k s =
    report { kind := .checkFail, bench := some b, card := some card, tag := some k.tag }
      (finishAtTake card k .badCard .notPresented s) := by
  simp [checkCard, bad]

theorem checkCard_badField (check : k.checkOk = true) (bad : k.fieldsGood s.st b = false) : checkCard card b k s =
    report { kind := .badCard, bench := some b, card := some card, tag := some k.tag }
      (finishAtTake card k .badCard .notPresented s) := by
  simp [checkCard, check, bad]

theorem checkCard_spent (check : k.checkOk = true) (good : k.fieldsGood s.st b = true) (spent : k.spent s.live = true) :
    checkCard card b k s = finishAtTake card k .exposureSpent .notPresented s := by
  simp [checkCard, check, good, spent]

theorem checkCard_withdrawn (check : k.checkOk = true) (good : k.fieldsGood s.st b = true)
    (fresh : k.spent s.live = false) (withdraw : k.withdraw = true) :
    checkCard card b k s = finishAtTake card k .withdrawn .withdrawn s := by
  simp [checkCard, check, good, fresh, withdraw]

theorem checkCard_accepted {cls : CardClass} (check : k.checkOk = true) (good : k.fieldsGood s.st b = true)
    (fresh : k.spent s.live = false) (wanted : k.withdraw = false) (known : classOf k.cls = some cls) :
    checkCard card b k s = acceptCard card b cls k s := by
  simp [checkCard, check, good, fresh, wanted, known]

end

/-- Settles O22: the premature link, then the checks in their order. -/
theorem cardStepTakesOrReturnsTheCard : Obligations.CardStepTakesOrReturnsTheCard := by
  intro s id b card data cls reading length running t k u
  rw [exec_cardReadReturn length reading]
  refine ⟨fun premature => ?_, fun posted free => ?_⟩
  · rw [cardReturned_premature (s := t) running premature]
    rfl
  · have taken : cardReturned b card data t = checkCard card b k u := cardReturned_taken (s := t) running posted free
    rw [taken]
    refine ⟨fun bad => ?_, fun check bad => ?_, fun check good spent => ?_, fun check good fresh withdraw => ?_,
      fun check good fresh wanted known => ?_⟩
    · rw [checkCard_checkFail (s := u) bad]
    · rw [checkCard_badField (s := u) check bad]
    · rw [checkCard_spent (s := u) check good spent]
    · rw [checkCard_withdrawn (s := u) check good fresh withdraw]
    · rw [checkCard_accepted (s := u) check good fresh wanted known]
      rfl

end Sys2Proof.Machine
end

section
/-! SUPPORT. Operations that leave the put position table as it stands: one lemma for each. -/

namespace Sys2Proof.Machine

theorem wall_foldl {α : Type} {f : State → α → State} (hf : ∀ t a, (f t a).wall = t.wall) (l : List α) :
    ∀ s : State, (l.foldl f s).wall = s.wall := by
  induction l with
  | nil => exact fun s => rfl
  | cons a l ih => exact fun s => (ih (f s a)).trans (hf s a)

/-! ### The Status Block and the DONE write -/

@[simp] theorem writeStatus_wall (s : State) : (writeStatus s).wall = s.wall := by
  obtain ⟨n, w, written⟩ := writeStatus_changes s
  rw [written]

@[simp] theorem setRunState_wall (r : RunState) (s : State) : (setRunState r s).wall = s.wall := by simp [setRunState]

@[simp] theorem writeDone_wall (card : Nat) (part : CardPart) (s : State) : (writeDone card part s).wall = s.wall := by
  simp [writeDone]

@[simp] theorem returnCard_wall (c : CardCtx) (s : State) : (returnCard c s).wall = s.wall := by
  unfold returnCard
  split <;> simp

@[simp] theorem unstage_wall (c : CardCtx) (s : State) : (unstage c s).wall = s.wall := rfl

@[simp] theorem finishStaged_wall (r : CardResult) (lr : LineResult) (c : CardCtx) (s : State) :
    (finishStaged r lr c s).wall = s.wall := by simp [finishStaged]

/-! ### Lane heads -/

@[simp] theorem darkenHead_wall (b : Bench) (p : Port) (s : State) : (darkenHead b p s).wall = s.wall := by
  rw [(lanes_darkenHead b p s).rest]

@[simp] theorem relightHead_wall (b : Bench) (p : Port) (s : State) : (relightHead b p s).wall = s.wall := by
  rw [(lanes_relightHead b p s).rest]

@[simp] theorem closeHead_wall (b : Bench) (p : Port) (s : State) : (closeHead b p s).wall = s.wall := by
  rw [(lanes_closeHead b p s).rest]

@[simp] theorem withdrawHead_wall (card : Nat) (seq : Word) (p : Port) (s : State) :
    (withdrawHead card seq p s).wall = s.wall := by rw [(lanes_withdrawHead card seq p s).rest]

@[simp] theorem recallTaking_wall (card : Nat) (seq : Word) (s : State) : (recallTaking card seq s).wall = s.wall :=
  wall_foldl (fun t p => by rw [(lanes_recallHead card seq p t).rest]) _ _

@[simp] theorem headsOf_wall (b : Bench) {f : Port → State → State} (hf : ∀ p t, (f p t).wall = t.wall) (s : State) :
    (headsOf b f s).wall = s.wall := wall_foldl (fun t p => hf p t) _ s

/-! ### Holds and the merge -/

@[simp] theorem sendHold_wall (p : Port) (s : State) : (sendHold p s).wall = s.wall := (settled_sendHold p s).wall

@[simp] theorem resumeHolds_wall (s : State) : (resumeHolds s).wall = s.wall :=
  wall_foldl (fun t p => by simp [setWants, apply_ite State.wall]) _ s

@[simp] theorem lapseHolds_wall (s : State) : (lapseHolds s).wall = s.wall := rfl

@[simp] theorem openMerge_wall (r : Requester) (s : State) : (openMerge r s).wall = s.wall := rfl

@[simp] theorem withdrawTarget_wall (r : Requester) (s : State) : (withdrawTarget r s).wall = s.wall := by
  unfold withdrawTarget
  split <;> simp [apply_ite State.wall]

@[simp] theorem endTenure_wall (r : Requester) (s : State) : (endTenure r s).wall = s.wall := by
  simp [endTenure, apply_ite State.wall]

@[simp] theorem timedOutHolder_wall (r : Requester) (s : State) : (timedOutHolder r s).wall = s.wall := by
  cases r with
  | recirc => simp [timedOutHolder]
  | port p =>
    simp only [timedOutHolder]
    split
    · rfl
    · rw [report_wall]
      split <;> simp

/-! ### Exposure records -/

@[simp] theorem countForTaking_wall (card : Nat) (seq : Word) (f : BenchCounters → BenchCounters) (s : State) :
    (countForTaking card seq f s).wall = s.wall := by
  unfold countForTaking
  split <;> simp

@[simp] theorem warnRecord_wall (card : Nat) (seq : Word) (s : State) : (warnRecord card seq s).wall = s.wall := by
  unfold warnRecord
  split <;> simp [apply_ite State.wall]

@[simp] theorem markOverdue_wall (r : Exposure) (s : State) : (markOverdue r s).wall = s.wall := by
  simp only [markOverdue]
  split
  · rfl
  · split <;> simp

@[simp] theorem recallRecord_wall (card : Nat) (seq : Word) (s : State) : (recallRecord card seq s).wall = s.wall := by
  unfold recallRecord
  split <;> simp [apply_ite State.wall]

@[simp] theorem compareRecord_wall (card : Nat) (seq : Word) (s : State) : (compareRecord card seq s).wall = s.wall := by
  simp [compareRecord]

@[simp] theorem startExposure_wall (c : CardCtx) (p : Port) (s : State) : (startExposure c p s).wall = s.wall := by
  simp [startExposure, apply_ite State.wall]

/-! ### Calls -/

@[simp] theorem endCall_wall (c : Call) (r : CardResult) (lr : LineResult) (s : State) :
    (endCall c r lr s).wall = s.wall := by simp [endCall]

@[simp] theorem failCall_wall (c : Call) (s : State) : (failCall c s).wall = s.wall := by simp [failCall]

@[simp] theorem loseCall_wall (c : Call) (s : State) : (loseCall c s).wall = s.wall := by simp [loseCall]

@[simp] theorem confirmCancel_wall (c : Call) (s : State) : (confirmCancel c s).wall = s.wall := by
  unfold confirmCancel
  split
  · simp
  · split <;> simp

@[simp] theorem cancelCall_wall (why : CancelReason) (c : Call) (s : State) : (cancelCall why c s).wall = s.wall := by
  simp [cancelCall, apply_ite State.wall]

@[simp] theorem cancelCalls_wall (why : CancelReason) (sel : Call → Bool) (s : State) :
    (cancelCalls why sel s).wall = s.wall := wall_foldl (fun t c => cancelCall_wall why c t) _ s

@[simp] theorem cancelIfDue_wall (n : Nat) (s : State) : (cancelIfDue n s).wall = s.wall := by
  unfold cancelIfDue
  split <;> simp [apply_ite State.wall]

@[simp] theorem busyRefusal_wall (c : Call) (s : State) : (busyRefusal c s).wall = s.wall := by
  simp [busyRefusal, startGap, apply_ite State.wall]

@[simp] theorem seeDispatch_wall (c : Call) (s : State) : (seeDispatch c s).wall = s.wall := by
  simp [seeDispatch, apply_ite State.wall]

@[simp] theorem beginInquiry_wall (c : Call) (s : State) : (beginInquiry c s).wall = s.wall := by simp [beginInquiry]

@[simp] theorem inquireAll_wall (s : State) : (inquireAll s).wall = s.wall :=
  wall_foldl (fun t c => beginInquiry_wall c t) _ s

@[simp] theorem inquiryExpiry_wall (c : Call) (s : State) : (inquiryExpiry c s).wall = s.wall := by
  simp [inquiryExpiry, apply_ite State.wall]

@[simp] theorem acceptAnswer_wall (c : Call) (s : State) : (acceptAnswer c s).wall = s.wall := by
  simp [acceptAnswer, apply_ite State.wall]

@[simp] theorem refuseAnswer_wall (reason : Nat) (c : Call) (s : State) : (refuseAnswer reason c s).wall = s.wall := by
  simp [refuseAnswer, apply_ite State.wall]

@[simp] theorem dispatchedAnswer_wall (c : Call) (s : State) : (dispatchedAnswer c s).wall = s.wall := by
  unfold dispatchedAnswer
  split
  · simp [cancelTooLate]
  · split <;> simp [callDispatched]

@[simp] theorem statusAnswer_wall (status : Nat) (c : Call) (s : State) : (statusAnswer status c s).wall = s.wall := by
  simp [statusAnswer, cancelPending, cancelTooLate, inquiryFound, apply_ite State.wall]

@[simp] theorem transitExpiry_wall (c : Call) (s : State) : (transitExpiry c s).wall = s.wall := by
  simp only [transitExpiry]
  split
  · simp
  · split <;> simp

@[simp] theorem resendCall_wall (c : Call) (s : State) : (resendCall c s).wall = s.wall := by simp [resendCall]

/-! ### Arrivals and departures -/

@[simp] theorem joinLane_wall (p : Port) (e : Entry) (s : State) : (joinLane p e s).wall = s.wall := rfl

@[simp] theorem arriveCard_wall (c : Call) (p : Port) (kind : EntryKind) (s : State) :
    (arriveCard c p kind s).wall = s.wall := by simp [arriveCard, moveExposure, apply_ite State.wall]

@[simp] theorem misroute_wall (c : Call) (p : Port) (s : State) : (misroute c p s).wall = s.wall := by simp [misroute]

@[simp] theorem departHead_wall (p : Port) (e : Entry) (s : State) : (departHead p e s).wall = s.wall := by
  simp only [departHead]
  split <;> simp

@[simp] theorem gridProtocol_wall (port : Option Byte) (tag : Option Word) (s : State) :
    (gridProtocol port tag s).wall = s.wall := report_wall _ s

/-! ### Tag translation -/

@[simp] theorem startMiss_wall (s : State) : (startMiss s).wall = s.wall := by
  unfold startMiss
  split
  · rfl
  · split <;> simp

@[simp] theorem flush_wall (s : State) : (flush s).wall = s.wall := by
  unfold flush
  split <;> simp

/-! ### Changes of run state and staffing -/

@[simp] theorem finishAllStaged_wall (s : State) : (finishAllStaged s).wall = s.wall :=
  wall_foldl (fun _ _ => wall_foldl (fun _ _ => finishStaged_wall _ _ _ _) _ _) _ s

@[simp] theorem enterDraining_wall (s : State) : (enterDraining s).wall = s.wall := by simp [enterDraining]

@[simp] theorem beginStarting_wall (s : State) : (beginStarting s).wall = s.wall := by simp [beginStarting]

@[simp] theorem closeUnenabled_wall (b : Bench) (s : State) : (closeUnenabled b s).wall = s.wall := by
  simp [closeUnenabled, apply_ite State.wall]

@[simp] theorem staffingActs_wall (b : Bench) (new : Staffing) (s : State) : (staffingActs b new s).wall = s.wall := by
  unfold staffingActs
  split
  · rfl
  · split <;> simp

@[simp] theorem changeStaffing_wall (b : Bench) (new : Staffing) (picker : Half) (s : State) :
    (changeStaffing b new picker s).wall = s.wall := by simp [changeStaffing]

@[simp] theorem startingError_wall (s : State) : (startingError s).wall = s.wall := by
  simp [startingError, apply_ite State.wall]

/-! ### Sweeps -/

@[simp] theorem endSweep_wall (s : State) : (endSweep s).wall = s.wall := by
  simp only [endSweep]
  split <;> rfl

@[simp] theorem stage6_wall (s : State) : (stage6 s).wall = s.wall := by
  simp only [stage6]
  split <;> simp

@[simp] theorem readOrderFlags_wall (q : PutPos) (s : State) : (readOrderFlags q s).wall = s.wall := by
  rw [readOrderFlags_eq]
  split <;> simp

@[simp] theorem enterStage_wall (g : SweepStage) (s : State) : (enterStage g s).wall = s.wall := rfl

@[simp] theorem stage5_wall (s : State) : (stage5 s).wall = s.wall := by
  simp [stage5, apply_ite State.wall, wall_foldl]

@[simp] theorem stage4_wall (s : State) : (stage4 s).wall = s.wall := by
  simp only [stage4, issue_cardFlags]
  split
  · rfl
  · exact stage5_wall _

@[simp] theorem readStarved_wall (b : Bench) (s : State) : (readStarved b s).wall = s.wall := by
  simp only [readStarved]
  split
  · split <;> simp
  · rfl

@[simp] theorem stage3_wall (s : State) : (stage3 s).wall = s.wall := by
  simp [stage3, apply_ite State.wall, wall_foldl]

@[simp] theorem advanceSweep_wall (s : State) : (advanceSweep s).wall = s.wall := by
  unfold advanceSweep
  split
  · rfl
  · split
    · rfl
    · split <;> simp [stage2]

@[simp] theorem liveReturned_wall (l : Live) (s : State) : (liveReturned l s).wall = s.wall := by
  simp [liveReturned, applyLive, refuseLive, apply_ite State.wall]

@[simp] theorem stampReturned_wall (stamp : Word) (s : State) : (stampReturned stamp s).wall = s.wall := by
  simp [stampReturned, apply_ite State.wall]

/-! ### The steps of a take, and withdrawal -/

@[simp] theorem starve_wall (b : Bench) (s : State) : (starve b s).wall = s.wall := rfl

@[simp] theorem indexCheck_wall (b : Bench) (i : Nat) (s : State) : (indexCheck b i s).wall = s.wall := by
  simp [indexCheck, setTakeMark, apply_ite State.wall]

@[simp] theorem linkReturned_wall (b : Bench) (value : Half) (s : State) : (linkReturned b value s).wall = s.wall := by
  simp [linkReturned, setTakeMark, apply_ite State.wall]

@[simp] theorem starvedReturned_wall (b : Bench) (atAnchor : Bool) (cursor : Option Nat) (value : Half) (s : State) :
    (starvedReturned b atAnchor cursor value s).wall = s.wall := by
  simp [starvedReturned, apply_ite State.wall]

@[simp] theorem finishAtTake_wall (card : Nat) (k : CardBytes) (r : CardResult) (lr : LineResult) (s : State) :
    (finishAtTake card k r lr s).wall = s.wall := writeDone_wall _ _ s

@[simp] theorem checkCard_wall (card : Nat) (b : Bench) (k : CardBytes) (s : State) :
    (checkCard card b k s).wall = s.wall := by
  have accepted : ∀ cls, (acceptCard card b cls k s).wall = s.wall := fun _ => rfl
  unfold checkCard
  cases classOf k.cls <;> simp [apply_ite State.wall, accepted]

@[simp] theorem cardReturned_wall (b : Bench) (card : Nat) (data : List Byte) (s : State) :
    (cardReturned b card data s).wall = s.wall := by
  simp [cardReturned, beginTaking, setTakeMark, apply_ite State.wall]

@[simp] theorem withdrawTaking_wall (card : Nat) (seq : Word) (s : State) : (withdrawTaking card seq s).wall = s.wall := by
  have marked : ∀ f, (updateTaking card seq f s).wall = s.wall := fun _ => rfl
  unfold withdrawTaking
  split <;> simp [apply_ite State.wall, wall_foldl, marked]

@[simp] theorem cardFlagsReturned_wall (card : Nat) (seq : Word) (flags : Byte) (s : State) :
    (cardFlagsReturned card seq flags s).wall = s.wall := by simp [cardFlagsReturned, apply_ite State.wall]

/-! ### The Bench Links -/

@[simp] theorem benchGood_wall (b : Bench) (payload : Nat) (s : State) : (benchGood b payload s).wall = s.wall := by
  simp [benchGood, apply_ite State.wall]

@[simp] theorem nextTicket_wall (b : Bench) (s : State) : (nextTicket b s).wall = s.wall := rfl

end Sys2Proof.Machine
end

section
/-! SUPPORT. Orders at one position (O58): the put position table by itself, what each operation of the put wall does to it,
the changes of run state and the settling. -/

namespace Sys2Proof.Machine

/-! ### The table by itself -/

/-- R55, R58 of a put position table: what `State.ordersApart` says of a state is a fact about its table alone. -/
def OrdersApart (w : Vector Position 64) : Prop :=
  (∀ (q r : PutPos) (j : Nat), w[q].order = some j → w[r].order = some j → q = r)
  ∧ ∀ q : PutPos, w[q].state = .empty → w[q].order = none

theorem ordersApart_iff {s : State} : s.ordersApart ↔ OrdersApart s.wall := Iff.rfl

section
variable {w : Vector Position 64} {q : PutPos} {e : Position}

/-- A position may be written with an order that no other position has. -/
theorem OrdersApart.set (h : OrdersApart w)
    (claim : ∀ (j : Nat) (r : PutPos), e.order = some j → w[r].order = some j → r = q)
    (free : e.state = .empty → e.order = none) : OrdersApart (w.set q e) := by
  obtain ⟨apart, empties⟩ := h
  have read : ∀ r : PutPos, (w.set q e)[r] = if q = r then e else w[r] := fun r => by
    simp [Fin.getElem_fin, Vector.getElem_set, Fin.ext_iff]
  refine ⟨fun r t j hr ht => ?_, fun r => ?_⟩
  · rw [read] at hr ht
    split at hr <;> split at ht
    next a b => exact a.symm.trans b
    next a b => exact a.symm.trans (claim j t hr ht).symm
    next a b => exact (claim j r ht hr).trans b
    next a b => exact apart r t j hr ht
  · rw [read]
    split
    · exact free
    · exact empties r

/-- A position may lose its order. -/
theorem OrdersApart.clear (h : OrdersApart w) (none : e.order = none) : OrdersApart (w.set q e) :=
  h.set (fun j r held => absurd held (by simp [none])) (fun _ => none)

/-- A position may change and keep its order, unless it becomes EMPTY by that. -/
theorem OrdersApart.keep (h : OrdersApart w) (same : e.order = w[q].order)
    (state : e.state = .empty → w[q].state = .empty) : OrdersApart (w.set q e) :=
  h.set (fun j r mine other => h.left r q j other (same ▸ mine)) (fun empty => same.trans (h.right q (state empty)))

end

theorem ordersApart_empty : OrdersApart (.replicate 64 Position.empty) := ordersApart_reset

/-- The table stays apart through a list of operations each of which keeps it so. -/
theorem apart_foldl {α : Type} {f : State → α → State}
    (hf : ∀ t a, OrdersApart t.wall → OrdersApart (f t a).wall) (l : List α) :
    ∀ s : State, OrdersApart s.wall → OrdersApart (l.foldl f s).wall := by
  induction l with
  | nil => exact fun s h => h
  | cons a l ih => exact fun s h => ih (f s a) (hf s a h)

theorem apart_ite (c : Prop) [Decidable c] {t u : State} (ht : OrdersApart t.wall) (hu : OrdersApart u.wall) :
    OrdersApart (if c then t else u).wall := by
  split
  · exact ht
  · exact hu

variable {s : State}

/-! ### Binding (R57 to R60) -/

theorem claimedElsewhere_false_iff {j : Nat} {q : PutPos} :
    s.claimedElsewhere j q = false ↔ ∀ r : PutPos, (s.position r).order = some j → r = q := by
  rw [State.claimedElsewhere, List.any_eq_false]
  refine ⟨fun none r other => Decidable.byContradiction fun apart => none r (List.mem_finRange r) ?_,
    fun alone r _ claims => ?_⟩
  · rw [Bool.and_eq_true, bne_iff_ne, beq_iff_eq]
    exact ⟨apart, other⟩
  · rw [Bool.and_eq_true, bne_iff_ne, beq_iff_eq] at claims
    obtain ⟨apart, other⟩ := claims
    exact apart (alone r other)

theorem apart_failBinding (q : PutPos) (r : Reason) (h : OrdersApart s.wall) : OrdersApart (failBinding q r s).wall := by
  rw [failBinding, answerPlace_wall]
  exact h.clear rfl

theorem apart_staleCleared (q : PutPos) (h : OrdersApart s.wall) :
    OrdersApart (setPosition q { s.position q with stale := false } s).wall := h.keep rfl id

/-- R58: an order is claimed only when no other position has it. -/
theorem apart_bindingAnswered (q : PutPos) (a : LookupAnswer) (h : OrdersApart s.wall) :
    OrdersApart (bindingAnswered q a s).wall := by
  simp only [bindingAnswered]
  split
  · exact apart_staleCleared q h
  · split
    next waits =>
      obtain ⟨binding, -⟩ := waits
      split
      · exact apart_failBinding q _ h
      next j =>
        split
        · exact apart_failBinding q _ h
        next unclaimed =>
          have alone := claimedElsewhere_false_iff.mp (Bool.eq_false_iff.mpr unclaimed)
          rw [issueRead_wall]
          exact h.set (fun i r mine other => alone r (other.trans mine.symm))
            (fun empty => absurd (binding.symm.trans empty) nofun)
      · exact apart_failBinding q _ h
    · exact h

/-- R59, R60: the order bound is the one that the position has claimed. -/
theorem apart_orderRecordReturned (q : PutPos) (j : Nat) (data : List Byte) (h : OrdersApart s.wall) :
    OrdersApart (orderRecordReturned q j data s).wall := by
  have failed := fun r => apart_failBinding q r h
  simp only [orderRecordReturned]
  split
  · exact apart_staleCleared q h
  · split
    next claims =>
      obtain ⟨-, -, claimed⟩ := claims
      have bound : OrdersApart (bindOrder q j (parseOrder data) s).wall := by
        have written : ∀ e : Position, e.order = some j → e.state = .bound → OrdersApart (s.wall.set q e) :=
          fun e order state => h.keep (order.trans claimed.symm)
            (fun empty => absurd (state.symm.trans empty) nofun)
        simp only [bindOrder]
        split <;> (simp only [raise_wall, answerPlace_wall, writeOrder, post_wall]; exact written _ rfl rfl)
      refine apart_ite _ (failed _) (apart_ite _ ?_ (apart_ite _ (failed _) (apart_ite _ (failed _) bound)))
      rw [report_wall]
      exact failed _
    · exact h

/-! ### Leaving BOUND and closing (R63 to R68, R71) -/

theorem apart_stopAccepting (q : PutPos) {st : PosState} (used : st ≠ .empty) (h : OrdersApart s.wall) :
    OrdersApart (stopAccepting q st s).wall := by
  have stopped : OrdersApart (setPosition q { s.position q with state := st } s).wall :=
    h.keep rfl (fun empty => absurd empty used)
  simp only [stopAccepting]
  split
  · rw [withdrawAcceptance_wall]
    exact stopped
  · exact stopped

theorem closeOrder_wall (q : PutPos) (reason : CloseReason) (s : State) :
    (closeOrder q reason s).wall = s.wall.set q Position.empty := by
  simp only [closeOrder]
  split
  · simp [writeOrder]
    rfl
  · rfl

theorem apart_closeOrder (q : PutPos) (reason : CloseReason) (h : OrdersApart s.wall) :
    OrdersApart (closeOrder q reason s).wall := by
  rw [closeOrder_wall]
  exact h.clear rfl

theorem apart_removeAt (q : PutPos) (h : OrdersApart s.wall) : OrdersApart (removeAt q s).wall := by
  simp only [removeAt]
  split
  · exact h
  · rw [abandonBinding, answerPlace_wall]
    exact h.clear rfl
  · rw [report_wall, closeOrder_wall]
    split
    · rw [withdrawAcceptance_wall]
      exact h.clear rfl
    · exact h.clear rfl
  · exact apart_closeOrder q _ h
  · exact apart_closeOrder q _ h
  · exact apart_closeOrder q _ h

theorem apart_closeRequested (q : PutPos) (h : OrdersApart s.wall) : OrdersApart (closeRequested q s).wall :=
  apart_ite _ (apart_stopAccepting q nofun (by rwa [closeCue_wall])) h

theorem apart_cancelBindings (h : OrdersApart s.wall) : OrdersApart (cancelBindings s).wall :=
  apart_foldl
    (fun t q ht => apart_ite (t := failBinding q .cancelled t) _ (apart_failBinding q _ ht) (apart_staleCleared q ht)) _ s h

theorem apart_closeDrained (h : OrdersApart s.wall) : OrdersApart (closeDrained s).wall :=
  apart_foldl (fun _ q ht => apart_ite _ (apart_closeOrder q _ ht) ht) _ s h

/-! ### Counting and deadlines (R62, R63, R69) -/

theorem apart_reportUnits (j u : Nat) (h : OrdersApart s.wall) : OrdersApart (reportUnits j u s).wall := by
  unfold reportUnits
  split
  · exact h
  · exact h.keep rfl id

theorem apart_reportLine (j : Nat) (h : OrdersApart s.wall) : OrdersApart (reportLine j s).wall := by
  simp only [reportLine]
  split
  · exact h
  next q _ =>
    have counted : ∀ n, OrdersApart (s.wall.set q { s.position q with linesCompleted := n }) := fun _ => h.keep rfl id
    refine apart_ite _ (apart_stopAccepting q nofun ?_) (counted _)
    rw [closeCue_wall]
    exact counted _

theorem apart_findLate (q : PutPos) (h : OrdersApart s.wall) : OrdersApart (findLate q s).wall := by
  have late : OrdersApart (s.wall.set q { s.position q with late := true }) := h.keep rfl id
  refine apart_ite _ ?_ h
  rw [raise_wall]
  exact late

/-! ### Tag translation -/

theorem apart_deliver (asker : Asker) (tag : Word) (a : LookupAnswer) (h : OrdersApart s.wall) :
    OrdersApart (deliver asker tag a s).wall := by
  cases asker with
  | place q => exact apart_bindingAnswered q a h
  | arrival p =>
    have kept : (deliver (.arrival p) tag a s).wall = s.wall := report_wall _ s
    rwa [kept]

theorem apart_lookup (tag : Word) (asker : Asker) (h : OrdersApart s.wall) : OrdersApart (lookup tag asker s).wall := by
  unfold lookup
  refine apart_ite _ (apart_deliver asker tag _ h) (apart_ite _ (apart_deliver asker tag _ h) ?_)
  split
  · exact apart_deliver asker tag _ h
  · refine apart_ite _ ?_ (apart_deliver asker tag _ h)
    rw [startMiss_wall]
    exact h

theorem apart_tagReturned (entry : Word) (h : OrdersApart s.wall) : OrdersApart (tagReturned entry s).wall := by
  unfold tagReturned
  split
  · simp only [translationReturned, startMiss_wall]
    exact apart_foldl (fun _ (l : Lookup) => apart_deliver l.asker l.tag _) _ _ h
  · exact h

/-! ### Changes of run state -/

theorem apart_enterFaulted (h : OrdersApart s.wall) : OrdersApart (enterFaulted s).wall := by
  rw [enterFaulted, setRunState_wall, panelResets_wall, clearGridQueue, setGridLink_wall]
  exact apart_cancelBindings h

theorem apart_endDrain (h : OrdersApart s.wall) : OrdersApart (endDrain s).wall := by
  have closed : OrdersApart (closeDrained (cancelBindings (discardReads (abandonSweep s)))).wall :=
    apart_closeDrained (apart_cancelBindings h)
  have ended : (endDrain s).wall = (closeDrained (cancelBindings (discardReads (abandonSweep s)))).wall := by
    simp [endDrain, clearTakeMarks, emptyMisses, clearGridQueue]
  rw [ended]
  exact closed

/-- Log entry 12: of the settling only the end of a drain touches the table. -/
theorem apart_settle (h : OrdersApart s.wall) : OrdersApart (settle s).wall := by
  have chosen : (beginTakes (selectCalls (mergeStep (refreshHolds s)))).wall = s.wall :=
    ((((settled_refreshHolds s).trans (settled_mergeStep _)).trans (settled_selectCalls _)).trans (settled_beginTakes _)).wall
  rw [← chosen] at h
  exact apart_ite _ (apart_ite _ (apart_endDrain h) h) (chosen ▸ h)

theorem apart_clearAll (s : State) : OrdersApart (clearAll s).wall := by
  have cleared : (clearAll s).wall = .replicate 64 Position.empty := by
    simp [clearAll, clearEvents, clearBlocks, apply_ite State.wall]
  rw [cleared]
  exact ordersApart_empty

theorem apart_startAccepted (st : Structural) (l : Live) (s : State) : OrdersApart (startAccepted st l s).wall := by
  have started : (allBenches.foldl (fun u b => closeUnenabled b u) (startBlocks (takeSettings st l s))).wall =
      .replicate 64 Position.empty := wall_foldl (fun t b => closeUnenabled_wall b t) _ _
  have running : ∀ t : State, OrdersApart t.wall → OrdersApart (enterRunning t).wall := fun t ht => by
    refine apart_settle ?_
    rw [setPau_wall, setRunState_wall]
    exact ht
  have empty := started.symm ▸ ordersApart_empty
  refine apart_ite _ (apart_settle ?_) (running _ empty)
  rw [enterDraining_wall]
  exact running _ empty

end Sys2Proof.Machine
end

section
/-! SUPPORT. Orders at one position (O58), continued: the ends of reads, the messages of both kinds of link, registers, time,
and every command. -/

namespace Sys2Proof.Machine

variable {s t : State}

theorem OrdersApart.of_wall (h : OrdersApart s.wall) (same : t.wall = s.wall) : OrdersApart t.wall := same ▸ h

/-- An event that leaves the table is settled. -/
theorem OrdersApart.settled (h : OrdersApart s.wall) (same : t.wall = s.wall) : OrdersApart (settle t).wall :=
  apart_settle (h.of_wall same)

/-! ### The ends of reads -/

theorem apart_busError (id : Nat) (h : OrdersApart s.wall) : OrdersApart (busError id s).wall := by
  unfold busError
  split
  · exact h
  · refine apart_ite _ h (apart_enterFaulted ?_)
    rw [startingError_wall, report_wall]
    exact h

theorem apart_withRead {α : Type} (id : Nat) (kind : ReadFor → Option α) {k : α → State → State}
    (hk : ∀ a t, OrdersApart t.wall → OrdersApart (k a t).wall) (h : OrdersApart s.wall) :
    OrdersApart (withRead id kind k s).wall := by
  unfold withRead
  split
  · exact h
  · split
    · exact h
    · exact apart_ite _ h (hk _ _ h)

theorem apart_settingsReturned (data : List Byte) (h : OrdersApart s.wall) : OrdersApart (settingsReturned data s).wall :=
  apart_ite _ (apart_startAccepted _ _ _) (apart_enterFaulted h)

/-- A read of a sweep: its effect, the settling, the sweep's next stage (log entry 12). -/
theorem apart_advanceSweep (h : OrdersApart s.wall) : OrdersApart (advanceSweep s).wall := h.of_wall (advanceSweep_wall s)

theorem apart_orderFlagsReturned (q : PutPos) (held : Bool) (flags : Byte) (h : OrdersApart s.wall) :
    OrdersApart (orderFlagsReturned q held flags s).wall := apart_ite _ (apart_closeRequested q h) h

/-! ### The Grid Link -/

theorem apart_gridGood (payload : Nat) (h : OrdersApart s.wall) : OrdersApart (gridGood payload s).wall := by
  refine apart_ite _ h (apart_ite _ (h.settled ?_) (h.of_wall ?_)) <;> simp

theorem apart_gridMessageTaken (payload : Nat) {k : State → State}
    (hk : ∀ t, OrdersApart t.wall → OrdersApart (k t).wall) (h : OrdersApart s.wall) :
    OrdersApart (gridMessageTaken payload k s).wall :=
  apart_ite _ (hk _ (apart_gridGood payload h)) (apart_gridGood payload h)

theorem apart_gridProtocol (port : Option Byte) (tag : Option Word) (h : OrdersApart s.wall) :
    OrdersApart (gridProtocol port tag s).wall := h.of_wall (gridProtocol_wall port tag s)

theorem apart_forCall (call : Half) {k : Call → State → State}
    (hk : ∀ c t, OrdersApart t.wall → OrdersApart (k c t).wall) (h : OrdersApart s.wall) :
    OrdersApart (forCall call k s).wall := by
  unfold forCall
  split
  · exact apart_gridProtocol _ _ h
  · exact hk _ _ h

theorem apart_forPort (port : Byte) (tag : Word) {k : Port → State → State}
    (hk : ∀ p t, OrdersApart t.wall → OrdersApart (k p t).wall) (h : OrdersApart s.wall) :
    OrdersApart (forPort port tag k s).wall := by
  unfold forPort
  split
  · exact apart_gridProtocol _ _ h
  · exact apart_ite _ (hk _ _ h) (apart_gridProtocol _ _ h)

/-- R97: of an arrival only the lookup of an unmatched tote is handed on. -/
theorem apart_arrivedAt (p : Port) (tag : Word) (h : OrdersApart s.wall) : OrdersApart (arrivedAt p tag s).wall := by
  unfold arrivedAt
  refine apart_ite _ (apart_gridProtocol _ _ h) (apart_ite _ (h.of_wall (report_wall _ _)) ?_)
  split
  · exact apart_settle (apart_lookup tag _ (h.of_wall (joinLane_wall p _ s)))
  · exact apart_ite _ (h.settled (arriveCard_wall _ p _ s)) (apart_ite _ (h.settled (arriveCard_wall _ p _ s))
      (h.settled (misroute_wall _ p s)))

theorem apart_dockedAt (p : Port) (tag : Word) (h : OrdersApart s.wall) : OrdersApart (dockedAt p tag s).wall := by
  unfold dockedAt
  split
  · exact apart_ite _ (apart_ite _ (h.settled (dockHead_wall p s)) h) (apart_gridProtocol _ _ h)
  · exact apart_gridProtocol _ _ h

theorem apart_departedAt (p : Port) (tag : Word) (h : OrdersApart s.wall) : OrdersApart (departedAt p tag s).wall := by
  unfold departedAt
  split
  · exact apart_gridProtocol _ _ h
  next e _ =>
    refine apart_ite _ (apart_gridProtocol _ _ h) ?_
    split
    · exact h.settled (by simp)
    · exact h.settled (by simp [withdrawRequest])
    · exact h.settled (departHead_wall p e s)
    · exact apart_gridProtocol _ _ h

theorem apart_recircCleared (h : OrdersApart s.wall) : OrdersApart (recircCleared s).wall :=
  apart_ite _ (h.settled (endTenure_wall _ s)) (apart_ite _ (h.of_wall (setMga_wall _ s))
    (apart_ite _ (h.settled (withdrawTarget_wall _ (setMga _ s))) (apart_gridProtocol _ _ h)))

theorem apart_returnHoldTaken (q : Half) (h : OrdersApart s.wall) : OrdersApart (returnHoldTaken q s).wall :=
  apart_ite _ (h.settled (setMga_wall _ (count _ s))) (h.of_wall (count_wall _ s))

/-! ### The Bench Links and the panels -/

theorem apart_answer (b : Bench) (r : Reason) (h : OrdersApart s.wall) : OrdersApart (answer b r s).wall :=
  h.of_wall (answer_wall b r s)

theorem apart_takePanel (b : Bench) (ty : PanelType) (port p : Byte) (inRange : Bool) {k : State → State}
    (hk : ∀ t, OrdersApart t.wall → OrdersApart (k t).wall) (h : OrdersApart s.wall) :
    OrdersApart (takePanel b ty port p inRange k s).wall := by
  have ticketed : OrdersApart (nextTicket b (benchGood b ty.payload s)).wall := h.of_wall (benchGood_wall b _ s)
  have refused : ∀ m, OrdersApart (benchHand b m (nextTicket b (benchGood b ty.payload s))).wall :=
    fun m => ticketed.of_wall (benchHand_wall b m _)
  simp only [takePanel]
  split
  · exact apart_ite _ (hk _ (ticketed.of_wall (answer_wall b .cancelled _))) (refused _)
  · split
    · exact refused _
    · exact hk _ ticketed

theorem apart_staffingMessage (b : Bench) (takes : Bool) (new : Staffing) (picker : Half) (h : OrdersApart s.wall) :
    OrdersApart (staffingMessage b takes new picker s).wall :=
  apart_ite _ (h.settled (by simp)) (apart_answer b _ h)

theorem apart_forPosition (b : Bench) (p : Byte) {k : PutPos → State → State}
    (hk : ∀ q t, OrdersApart t.wall → OrdersApart (k q t).wall) (h : OrdersApart s.wall) :
    OrdersApart (forPosition b p k s).wall := by
  unfold forPosition
  split
  · exact hk _ _ h
  · exact h

/-- R57: a binding begins without an order. -/
theorem apart_placeAt (b : Bench) (tag : Word) (q : PutPos) (h : OrdersApart s.wall) :
    OrdersApart (placeAt b tag q s).wall :=
  have refused : ∀ r, OrdersApart (answer b r s).wall := fun r => apart_answer b r h
  apart_ite _ (refused _) (apart_ite _ (refused _) (apart_ite _ (refused _)
    (apart_settle (apart_lookup tag _ (s := setPosition q _ s) (h.clear rfl)))))

theorem apart_fullAt (b : Bench) (q : PutPos) (h : OrdersApart s.wall) : OrdersApart (fullAt b q s).wall := by
  unfold fullAt
  split
  · exact apart_settle (apart_answer b _ (apart_stopAccepting q nofun h))
  · exact apart_answer b _ h
  · exact apart_answer b _ h
  · exact apart_answer b _ h

/-- R102: the units, then the completed line, are counted at the position that holds the order. -/
theorem apart_acceptPick (p : Port) (e : Entry) (c : CardCtx) (q : PutPos) (l : Line) (qty : Nat) (h : OrdersApart s.wall) :
    OrdersApart (acceptPick p e c q l qty s).wall := by
  have reported := fun lines => apart_reportUnits (s := setHeadCard p e { c with lines := lines } e.state s) l.order qty h
  refine apart_ite _ ((reported _).of_wall (showLine_wall p _ _)) ?_
  rw [settleEntry_wall]
  exact apart_reportLine _ ((reported _).of_wall (unshowLine_wall p l _))

theorem apart_pickAt (b : Bench) (port : Byte) (qty : Nat) (q : PutPos) (h : OrdersApart s.wall) :
    OrdersApart (pickAt b port qty q s).wall := by
  have refused : ∀ r, OrdersApart (answer b r s).wall := fun r => apart_answer b r h
  have presenting : ∀ p e c, OrdersApart (pickPresenting b p e c q qty s).wall := by
    intro p e c
    unfold pickPresenting
    split
    · exact refused _
    · exact apart_ite _ (refused _) (apart_settle (apart_answer b _ (apart_acceptPick p e c q _ qty h)))
  unfold pickAt
  split
  · exact refused _
  · refine apart_ite _ (refused _) ?_
    split
    · exact refused _
    · exact apart_ite _ (presenting _ _ _) (refused _)

theorem apart_endBenchLines (b : Bench) (lr : LineResult) {told : Port → CardCtx → Nat → State → State} (port : Byte)
    (ht : ∀ p c n t, (told p c n t).wall = t.wall) (h : OrdersApart s.wall) :
    OrdersApart (endBenchLines b lr told port s).wall := by
  unfold endBenchLines
  split
  · exact apart_answer b _ h
  · exact apart_ite _ (apart_answer b _ h) (h.settled (by simp [ht]))

/-! ### Registers and time -/

theorem apart_controlWrite (value : Word) (h : OrdersApart s.wall) : OrdersApart (controlWrite value s).wall := by
  unfold controlWrite
  refine apart_ite _ (apart_clearAll s) ?_
  split
  · exact apart_ite _ (h.of_wall (by simp)) (h.of_wall (by simp))
  · exact h.of_wall (by simp)
  · exact apart_ite _ (h.settled (by simp)) (h.of_wall (by simp))
  · exact h.of_wall (by simp)

theorem apart_takeTimed (e : TimedEvent) (h : OrdersApart s.wall) : OrdersApart (takeTimed e s).wall := by
  refine apart_ite _ ?_ h
  split
  · exact apart_findLate _ h
  · split
    · exact h.of_wall (warnRecord_wall _ _ s)
    · exact h
  · split
    · exact h.of_wall (compareRecord_wall _ _ s)
    · exact h
  · split
    · exact apart_ite _ h (h.of_wall (finishStaged_wall _ _ _ s))
    · exact h

theorem apart_timedEvent (e : TimedEvent) (h : OrdersApart s.wall) : OrdersApart (timedEvent e s).wall :=
  apart_ite _ (apart_settle (apart_takeTimed e h)) h

theorem apart_callTimer (n : Nat) (runs : Call → Bool) {k : Call → State → State} (hk : ∀ c t, (k c t).wall = t.wall)
    (h : OrdersApart s.wall) : OrdersApart (callTimer n runs k s).wall := by
  unfold callTimer
  split
  · exact h
  · exact apart_ite _ (h.settled (hk _ s)) h

/-! ### Every command -/

/-- The state that an answer holds, if any, has its orders apart. -/
def ApartOut (o : Out) : Prop := ∀ t, o = .next t → OrdersApart t.wall

theorem ApartOut.next (h : OrdersApart t.wall) : ApartOut (.next t) := fun _ same => by cases same; exact h

theorem ApartOut.ofLength (c : Prop) [Decidable c] (f : Fault) (h : OrdersApart t.wall) :
    ApartOut (if c then .next t else .fault f) := by
  split
  · exact .next h
  · exact fun _ same => nomatch same

theorem apart_execEdition (value : Word) (h : OrdersApart s.wall) : ApartOut (execEdition value s) := by
  refine .next (apart_ite _ ?_ h)
  split <;> exact h

theorem apart_execTimedSweepTimerExpiry (h : OrdersApart s.wall) : ApartOut (execTimedSweepTimerExpiry s) := by
  refine .next (apart_ite _ ?_ h)
  split
  · exact h.of_wall (stage3_wall _)
  · exact h

theorem apart_execFloorClockAdvance (apart : List TimedEvent) (h : OrdersApart s.wall) :
    ApartOut (execFloorClockAdvance apart s) :=
  .next (apart_ite _ (apart_settle (apart_foldl (fun _ e => apart_takeTimed e) _ (secondPasses s) h)) h)

theorem apart_execTenureTimeout (h : OrdersApart s.wall) : ApartOut (execTenureTimeout s) := by
  refine .next ?_
  split
  · exact apart_ite _ (h.settled (by simp)) h
  · exact h

theorem apart_execGateSwingEnd (h : OrdersApart s.wall) : ApartOut (execGateSwingEnd s) := by
  refine .next ?_
  split
  · exact apart_ite _ (h.settled (by simp [apply_ite State.wall])) h
  · exact h

theorem apart_execGridLinkDown (h : OrdersApart s.wall) : ApartOut (execGridLinkDown s) := by
  have down : (raise .gridLink (setGridLink { s.glc.link.clearQueue with up := false } s)).wall = s.wall := by simp
  exact .next (apart_ite _ (apart_ite _ (h.settled down) (h.of_wall down)) h)

theorem apart_execBenchLinkDown (b : Bench) (h : OrdersApart s.wall) : ApartOut (execBenchLinkDown b s) :=
  .next (apart_ite _ (apart_ite _ (h.of_wall (by simp)) (h.settled (by simp))) h)

theorem apart_tick (h : OrdersApart s.wall) : OrdersApart (tick s).wall :=
  h.of_wall (by simp only [tick, tickLinks]; split <;> rfl)

/-- R55, R58: every command keeps the orders apart. A command that answers with a state whose table is that of `s` by its very
definition is closed by `h` itself. -/
theorem apart_exec (c : Instr) (h : OrdersApart s.wall) : ApartOut (exec c s) := by
  cases c with
  | run v => exact .next (apart_controlWrite v h)
  | clear v => exact .next (apart_controlWrite v h)
  | noticeEnable v => exact .next (apart_controlWrite v h)
  | areaLo v => exact .next (apart_ite _ h h)
  | areaHi v => exact .next (apart_ite _ h h)
  | edition v => exact apart_execEdition v h
  | events v => exact .next (h.of_wall (findSignals_wall _ _))
  | eventMask v => exact .next (h.of_wall (findSignals_wall _ _))
  | registerWriteDiscarded off en v => exact .next h
  | powerOnReset => exact .next ordersApart_empty
  | busReset => exact .next ordersApart_empty
  | settingsReadReturn id data =>
    exact .ofLength _ _ (apart_withRead id _ (fun _ _ => apart_settingsReturned data) h)
  | readBusError id => exact .next (apart_busError id h)
  | readTimeout id => exact .next (apart_busError id h)
  | stampReadReturn id stamp =>
    exact .next (apart_withRead id _ (fun _ _ ht => apart_advanceSweep (ht.of_wall (stampReturned_wall stamp _))) h)
  | liveSettingsReadReturn id data =>
    exact .ofLength _ _ (apart_withRead id _
      (fun _ _ ht => apart_advanceSweep (ht.settled (liveReturned_wall _ _))) h)
  | starvedChainReadReturn id v =>
    exact .next (apart_withRead id _
      (fun _ _ ht => apart_advanceSweep (ht.settled (starvedReturned_wall _ _ _ v _))) h)
  | cardFlagsReadReturn id f =>
    exact .next (apart_withRead id _ (fun _ _ ht => apart_advanceSweep (ht.settled (cardFlagsReturned_wall _ _ f _))) h)
  | orderFlagsReadReturn id f =>
    exact .next (apart_withRead id _
      (fun _ _ ht => apart_advanceSweep (apart_settle (apart_orderFlagsReturned _ _ f ht))) h)
  | linkStepReadReturn id v => exact .next (apart_withRead id _ (fun b _ ht => ht.settled (linkReturned_wall b v _)) h)
  | cardReadReturn id data =>
    exact .ofLength _ _ (apart_withRead id _ (fun _ _ ht => ht.settled (cardReturned_wall _ _ data _)) h)
  | tagTableReadReturn id w => exact .next (apart_withRead id _ (fun _ _ ht => apart_settle (apart_tagReturned w ht)) h)
  | orderRecordReadReturn id data =>
    exact .ofLength _ _ (apart_withRead id _ (fun _ _ ht => apart_settle (apart_orderRecordReturned _ _ data ht)) h)
  | timedSweepTimerExpiry => exact apart_execTimedSweepTimerExpiry h
  | floorClockAdvance apart => exact apart_execFloorClockAdvance apart h
  | deadlinePassed q => exact .next (apart_timedEvent _ h)
  | exposureWarning card => exact .next (apart_timedEvent _ h)
  | exposureRecall card => exact .next (apart_timedEvent _ h)
  | readyWaitPasses card => exact .next (apart_timedEvent _ h)
  | answerTimerExpiry n => exact .next (apart_callTimer n _ busyRefusal_wall h)
  | retryGapExpiry n => exact .next (apart_callTimer n _ resendCall_wall h)
  | inquiryTimerExpiry n => exact .next (apart_callTimer n _ inquiryExpiry_wall h)
  | transitTimeout n => exact .next (apart_callTimer n _ transitExpiry_wall h)
  | tenureTimeout => exact apart_execTenureTimeout h
  | gateSwingEnd => exact apart_execGateSwingEnd h
  | returnHoldEnd => exact .next (apart_ite _ (h.settled (setMga_wall _ s)) h)
  | dispatchHoldRefresh p => exact .next (apart_ite _ (h.of_wall (sendHold_wall p s)) h)
  | holdExpiry p => exact .next (apart_ite _ h h)
  | gridLinkDown => exact apart_execGridLinkDown h
  | gridIdleLineCheck => exact .next h
  | gridFrameSent => exact .next (apart_ite _ h h)
  | gridFrameGapTimeout bytes => exact .next (apart_ite _ h h)
  | gridFrameError bytes => exact .next (apart_ite _ h h)
  | gridLineCheck => exact .next (apart_gridGood 0 h)
  | callAccept n =>
    exact .next (apart_gridMessageTaken 2 (fun _ => apart_forCall n (fun c t ht => ht.settled (acceptAnswer_wall c t))) h)
  | callRefuse n r =>
    exact .next (apart_gridMessageTaken 3 (fun _ => apart_forCall n (fun c t ht =>
      apart_ite _ (ht.settled (refuseAnswer_wall _ c _)) (apart_gridProtocol _ _ ht))) h)
  | dispatched n =>
    exact .next (apart_gridMessageTaken 2 (fun _ => apart_forCall n (fun c t ht => ht.settled (dispatchedAnswer_wall c t))) h)
  | callStatus n status =>
    exact .next (apart_gridMessageTaken 3 (fun _ => apart_forCall n (fun c t ht =>
      apart_ite _ (ht.settled (statusAnswer_wall _ c t)) (apart_gridProtocol _ _ ht))) h)
  | arrived port tag =>
    exact .next (apart_gridMessageTaken 6 (fun _ => apart_forPort port tag (fun p _ => apart_arrivedAt p tag)) h)
  | docked port tag =>
    exact .next (apart_gridMessageTaken 6 (fun _ => apart_forPort port tag (fun p _ => apart_dockedAt p tag)) h)
  | departed port tag =>
    exact .next (apart_gridMessageTaken 6 (fun _ => apart_forPort port tag (fun p _ => apart_departedAt p tag)) h)
  | recircRequest => exact .next (apart_gridMessageTaken 0 (fun t ht => ht.settled (setMga_wall _ t)) h)
  | recircClear => exact .next (apart_gridMessageTaken 0 (fun _ => apart_recircCleared) h)
  | returnHold q => exact .next (apart_gridMessageTaken 2 (fun _ => apart_returnHoldTaken q) h)
  | benchLinkDown b => exact apart_execBenchLinkDown b h
  | benchIdleLineCheck b => exact .next h
  | benchFrameSent b => exact .next (apart_ite _ h h)
  | benchFrameGapTimeout b bytes => exact .next (apart_ite _ h h)
  | benchFrameError b bytes => exact .next (apart_ite _ h h)
  | benchLineCheck b => exact .next (h.of_wall (benchGood_wall b 0 s))
  | signOn b picker => exact .next (apart_takePanel b _ _ _ _ (fun _ => apart_staffingMessage b _ _ _) h)
  | signOff b => exact .next (apart_takePanel b _ _ _ _ (fun _ => apart_staffingMessage b _ _ _) h)
  | breakOff b => exact .next (apart_takePanel b _ _ _ _ (fun _ => apart_staffingMessage b _ _ _) h)
  | back b => exact .next (apart_takePanel b _ _ _ _ (fun _ => apart_staffingMessage b _ _ _) h)
  | place b p tag =>
    exact .next (apart_takePanel b _ _ _ _ (fun _ => apart_forPosition b p (fun q _ => apart_placeAt b tag q)) h)
  | remove b p =>
    exact .next (apart_takePanel b _ _ _ _ (fun _ => apart_forPosition b p
      (fun q _ ht => apart_settle (apart_answer b _ (apart_removeAt q ht)))) h)
  | full b p =>
    exact .next (apart_takePanel b _ _ _ _ (fun _ => apart_forPosition b p (fun q _ => apart_fullAt b q)) h)
  | pick b port p qty =>
    exact .next (apart_takePanel b _ _ _ _ (fun _ => apart_forPosition b p (fun q _ => apart_pickAt b port _ q)) h)
  | short b port =>
    exact .next (apart_takePanel b _ _ _ _
      (fun _ => apart_endBenchLines b _ port (fun _ _ _ t => by simp [toldShort])) h)
  | toteDone b port =>
    exact .next (apart_takePanel b _ _ _ _ (fun _ => apart_endBenchLines b _ port (fun _ _ _ _ => rfl)) h)

/-- Settles O58: an idle step and every command keep each order at one position and EMPTY positions without an order. -/
theorem everyStepKeepsOrdersAtOnePosition : Obligations.EveryStepKeepsOrdersAtOnePosition := by
  intro s t h e
  rw [ordersApart_iff] at h ⊢
  unfold step at e
  split at e
  next idle => cases e; exact apart_tick h
  next c rest _ => exact apart_exec (s := { s with pending := rest }) c h t e

end Sys2Proof.Machine
end

section
/-! SUPPORT. The put wall's answers and counts: which position holds an order (O54), and what a report does there (O52). -/

namespace Sys2Proof.Machine

variable {s : State} {j : Nat} {q : PutPos}

/-! ### The position that holds an order (R55) -/

theorem holder_eq_none_iff :
    s.holder j = none ↔ ∀ q : PutPos, (s.position q).order = some j → (s.position q).state.holds = false := by
  simp [State.holder, allPositions]

theorem of_holder (held : s.holder j = some q) : (s.position q).order = some j ∧ (s.position q).state.holds = true := by
  simpa using List.find?_some held

/-- With its orders apart, a table has the order at no position but this one. -/
theorem holder_eq (apart : s.ordersApart) (order : (s.position q).order = some j) :
    s.holder j = if (s.position q).state.holds then some q else none := by
  have only : ∀ r, (s.position r).order = some j → r = q := fun r other => apart.left r q j other order
  split
  next holds =>
    cases found : s.holder j with
    | none => exact absurd (holder_eq_none_iff.mp found q order) (by simp [holds])
    | some r => rw [only r (of_holder found).left]
  next free => exact holder_eq_none_iff.mpr fun r other => only r other ▸ Bool.eq_false_iff.mpr free

theorem PosState.holds_iff {st : PosState} :
    st.holds = true ↔ st = .bound ∨ st = .complete ∨ st = .full ∨ st = .closing := by
  cases st <;> decide

/-! ### Questions (R56) -/

theorem ask_absent {benches : List Bench} (nowhere : s.holder j = none) : s.ask j benches = .absent := by
  rw [State.ask, nowhere]

theorem ask_held {benches : List Bench} (held : s.holder j = some q) (inSet : posBench q ∈ benches) :
    s.ask j benches = if (s.position q).state = .bound then .accepting q (s.position q).deadline else .notAccepting := by
  simp [State.ask, held, inSet]

theorem ask_elsewhere {benches : List Bench} (held : s.holder j = some q) (outside : posBench q ∉ benches) :
    s.ask j benches = .absent := by
  simp [State.ask, held, outside]

/-- Settles O54: the position with the order is the only one, so its state and bench decide the answer. -/
theorem putWallAnswersQuestions : Obligations.PutWallAnswersQuestions := by
  intro s j benches apart
  refine ⟨fun q order => ?_, fun nowhere => ask_absent (holder_eq_none_iff.mpr fun q here => absurd here (nowhere q))⟩
  have holder := holder_eq apart order
  refine ⟨fun bound inSet => ?_, fun stopped inSet => ?_, fun away => ?_⟩
  · rw [if_pos (PosState.holds_iff.mpr (.inl bound))] at holder
    rw [ask_held holder inSet, if_pos bound]
  · rw [if_pos (PosState.holds_iff.mpr (.inr stopped))] at holder
    rw [ask_held holder inSet, if_neg (by rcases stopped with state | state | state <;> simp [state])]
  · split at holder
    next holds =>
      refine ask_elsewhere holder (away.resolve_left fun binding => ?_)
      simp [binding, PosState.holds] at holds
    · exact ask_absent holder

/-! ### Leaving BOUND (R63, R64) -/

theorem stopAccepting_of_order (st : PosState) (order : (s.position q).order = some j) : stopAccepting q st s =
    withdrawAcceptance j .orderFull (setPosition q { s.position q with state := st } s) := by
  simp [stopAccepting, order]

@[simp] theorem closeCue_position (q r : PutPos) (s : State) : (closeCue q s).position r = s.position r := by
  simp [State.position]

/-! ### Counting (R62, R63) -/

theorem reportUnits_held (u : Nat) (held : s.holder j = some q) : reportUnits j u s =
    countBench (posBench q) (fun k => { k with unitsPut := k.unitsPut + BitVec.ofNat 32 u })
      (setPosition q { s.position q with unitsPut := (s.position q).unitsPut + BitVec.ofNat 32 u } s) := by
  rw [reportUnits, held]
  rfl

/-- R62: one completed line counted at position q and its bench. -/
def lineCounted (q : PutPos) (s : State) : State :=
  countBench (posBench q) (fun k => { k with linesComplete := k.linesComplete + 1 })
    (setPosition q { s.position q with linesCompleted := min ((s.position q).linesCompleted + 1) 0xFFFF } s)

theorem lineCounted_position (q : PutPos) (s : State) : (lineCounted q s).position q =
    { s.position q with linesCompleted := min ((s.position q).linesCompleted + 1) 0xFFFF } := setPosition_position_self q _ s

theorem reportLine_held (held : s.holder j = some q) : reportLine j s =
    if (s.position q).state = .bound ∧ (s.position q).linesExpected ≠ 0
        ∧ min ((s.position q).linesCompleted + 1) 0xFFFF = (s.position q).linesExpected then
      stopAccepting q .complete (closeCue q (lineCounted q s))
    else lineCounted q s := by
  rw [reportLine, held]
  rfl

/-- Settles O52. -/
theorem countingAtThePosition : Obligations.CountingAtThePosition := by
  intro s j u
  refine ⟨fun nowhere => ⟨by rw [reportUnits, nowhere], by rw [reportLine, nowhere]⟩, fun q held => ?_⟩
  obtain ⟨order, holds⟩ := of_holder held
  refine ⟨order, PosState.holds_iff.mp holds, reportUnits_held u held, fun bound expected last => ?_, fun more => ?_⟩
  · have counted : ((closeCue q (lineCounted q s)).position q) =
        { s.position q with linesCompleted := min ((s.position q).linesCompleted + 1) 0xFFFF } := by
      rw [closeCue_position, lineCounted_position]
    have still : ((closeCue q (lineCounted q s)).position q).order = some j := by rw [counted, order]
    rw [reportLine_held held, if_pos ⟨bound, expected, last⟩, stopAccepting_of_order _ still, counted]
    rfl
  · refine (reportLine_held held).trans (if_neg fun ⟨bound, expected, last⟩ => ?_)
    rcases more with other | unset | before
    · exact other bound
    · exact expected unset
    · exact before last

end Sys2Proof.Machine
end

section
/-! SUPPORT. The panel messages of the put wall: PLACE (O47), REMOVE (O48) and FULL (O49). -/

namespace Sys2Proof.Machine

/-! ### Taking a panel message (R173) -/

section
variable {s : State}

/-- A message that passes every test is handed to its block as the awaited one. -/
theorem takePanel_taken {m : PanelFields} (k : State → State) (taken : s.panelTaken m) :
    takePanel m.bench m.ty m.port m.p m.inRange k s = k (panelState m s) := by
  obtain ⟨free, passes⟩ := taken
  simp only [ticketed] at free passes
  simp only [takePanel, free, passes, panelState, ticketed]

/-- In FAULTED a message that finds none awaited is answered BUSY. -/
theorem takePanel_faulted {b : Bench} {ty : PanelType} (port p : Byte) (inRange : Bool) (k : State → State)
    (free : ((ticketed b ty s).bench b).awaited = none) (faulted : (ticketed b ty s).pau.runState = .faulted) :
    takePanel b ty port p inRange k s =
      benchHand b (.answer ((ticketed b ty s).bench b).lastTicket ty port p .busy) (ticketed b ty s) := by
  simp only [ticketed] at free faulted
  simp only [takePanel, free, State.panelRefusal, faulted, ticketed, if_pos]

/-- R61, R173: a REMOVE over the awaited PLACE of its position answers the PLACE CANCELLED and is the awaited message then. -/
theorem takePanel_overPlace {b : Bench} {w : Awaited} {p : Byte} (port : Byte) (inRange : Bool) (k : State → State)
    (waits : ((ticketed b .remove s).bench b).awaited = some w) (place : w.ty = .place) (same : w.p = p) :
    takePanel b .remove port p inRange k s =
      k (setAwaited b (some { ty := .remove, port := port, p := p, ticket := ((ticketed b .remove s).bench b).lastTicket })
        (answer b .cancelled (ticketed b .remove s))) := by
  simp only [ticketed] at waits
  simp only [takePanel, waits, ticketed]
  rw [if_pos ⟨trivial, place, same⟩]

theorem ticketed_runState (b : Bench) (ty : PanelType) (s : State) :
    (ticketed b ty s).pau.runState = s.pau.runState := by
  simp [ticketed, nextTicket, benchGood, apply_ite State.pau]

theorem setAwaited_awaited (b : Bench) (a : Option Awaited) (s : State) : ((setAwaited b a s).bench b).awaited = a := by
  simp [setAwaited]

theorem panelState_awaited (m : PanelFields) (s : State) : ((panelState m s).bench m.bench).awaited =
    some { ty := m.ty, port := m.port, p := m.p, ticket := ((ticketed m.bench m.ty s).bench m.bench).lastTicket } :=
  setAwaited_awaited _ _ _

@[simp] theorem panelState_position (m : PanelFields) (q : PutPos) (s : State) :
    (panelState m s).position q = s.position q := by
  simp [State.position, panelState, ticketed]

end

/-! ### The position that a message names (R57) -/

section
variable {p : Byte} {i : Fin 16}

theorem positionInRange_eq (p : Byte) : positionInRange p = decide (p.toNat < 16) := by
  simp only [positionInRange, positionOfByte]
  split <;> simp_all

theorem forPosition_eq (b : Bench) (k : PutPos → State → State) (s : State) (value : p.toNat = i.val) :
    forPosition b p k s = k (putPos b i) s := by
  simp [forPosition, positionOfByte, value]

theorem posBench_putPos (b : Bench) (i : Fin 16) : posBench (putPos b i) = b := by
  ext
  simp only [posBench, putPos]
  omega

variable {s : State} {b : Bench}

theorem exec_place_taken (tag : Word) (value : p.toNat = i.val)
    (taken : s.panelTaken { bench := b, ty := .place, port := 0xFF, p := p, inRange := decide (p.toNat < 16) }) :
    exec (.place b p tag) s = .next (placeAt b tag (putPos b i)
      (panelState { bench := b, ty := .place, port := 0xFF, p := p, inRange := decide (p.toNat < 16) } s)) := by
  refine congrArg Host.Outcome.next ?_
  rw [positionInRange_eq]
  exact (takePanel_taken _ taken).trans (forPosition_eq b _ _ value)

theorem exec_full_taken (value : p.toNat = i.val)
    (taken : s.panelTaken { bench := b, ty := .full, port := 0xFF, p := p, inRange := decide (p.toNat < 16) }) :
    exec (.full b p) s = .next (fullAt b (putPos b i)
      (panelState { bench := b, ty := .full, port := 0xFF, p := p, inRange := decide (p.toNat < 16) } s)) := by
  refine congrArg Host.Outcome.next ?_
  rw [positionInRange_eq]
  exact (takePanel_taken _ taken).trans (forPosition_eq b _ _ value)

theorem exec_remove_taken (value : p.toNat = i.val)
    (taken : s.panelTaken { bench := b, ty := .remove, port := 0xFF, p := p, inRange := decide (p.toNat < 16) }) :
    exec (.remove b p) s = .next (settle (answer b .accept (removeAt (putPos b i)
      (panelState { bench := b, ty := .remove, port := 0xFF, p := p, inRange := decide (p.toNat < 16) } s)))) := by
  refine congrArg Host.Outcome.next ?_
  rw [positionInRange_eq]
  exact (takePanel_taken _ taken).trans (forPosition_eq b _ _ value)

theorem exec_remove_overPlace {w : Awaited} (value : p.toNat = i.val)
    (waits : ((ticketed b .remove s).bench b).awaited = some w) (place : w.ty = .place) (same : w.p = p) :
    exec (.remove b p) s = .next (settle (answer b .accept (removeAt (putPos b i)
      (setAwaited b (some { ty := .remove, port := 0xFF, p := p, ticket := ((ticketed b .remove s).bench b).lastTicket })
        (answer b .cancelled (ticketed b .remove s)))))) :=
  congrArg Host.Outcome.next ((takePanel_overPlace _ _ _ waits place same).trans (forPosition_eq b _ _ value))

end

variable {s : State} {q : PutPos} {j : Nat}

/-! ### PLACE (O47) -/

@[simp] theorem answer_position (b : Bench) (r : Reason) (q : PutPos) (s : State) :
    (answer b r s).position q = s.position q := by
  simp [State.position]

section
variable {b : Bench} {tag : Word}

theorem placeAt_inactive (off : s.active = false) : placeAt b tag q s = answer b .busy s := by simp [placeAt, off]

theorem placeAt_used (on : s.active = true) (used : (s.position q).state ≠ .empty) :
    placeAt b tag q s = answer b .occupied s := by simp [placeAt, on, used]

theorem placeAt_stale (on : s.active = true) (empty : (s.position q).state = .empty) (stale : (s.position q).stale = true) :
    placeAt b tag q s = answer b .busy s := by simp [placeAt, on, empty, stale]

/-- R57, R58: the binding begins, and the TTU is asked with the put position as identity. -/
theorem placeAt_free (on : s.active = true) (empty : (s.position q).state = .empty) (fresh : (s.position q).stale = false) :
    placeAt b tag q s = settle (lookup tag (.place q)
      (setPosition q { Position.empty with state := .binding, step := .lookup, scanned := tag } s)) := by
  simp [placeAt, on, empty, fresh]

end

/-- Settles O47: the tests of R57 in their order. -/
theorem placeIsTakenByItsPosition : Obligations.PlaceIsTakenByItsPosition := by
  intro s b i p tag value m t q
  refine ⟨by simp [q, putPos, value], fun free faulted => ?_, fun taken => ?_⟩
  · refine congrArg Host.Outcome.next (takePanel_faulted _ _ _ _ free ?_)
    rw [ticketed_runState, faulted]
  · rw [exec_place_taken tag value taken]
    exact ⟨fun r => by simp [t], fun off => congrArg _ (placeAt_inactive off),
      fun on used => congrArg _ (placeAt_used on used), fun on empty stale => congrArg _ (placeAt_stale on empty stale),
      fun on empty fresh => congrArg _ (placeAt_free on empty fresh)⟩

/-! ### FULL (O49) -/

section
variable {b : Bench}

theorem fullAt_bound (bound : (s.position q).state = .bound) (order : (s.position q).order = some j) : fullAt b q s =
    settle (answer b .accept (withdrawAcceptance j .orderFull (setPosition q { s.position q with state := .full } s))) := by
  simp only [fullAt, bound, stopAccepting_of_order _ order]

theorem fullAt_stopped
    (stopped : (s.position q).state = .complete ∨ (s.position q).state = .full ∨ (s.position q).state = .closing) :
    fullAt b q s = answer b .accept s := by
  rcases stopped with state | state | state <;> simp only [fullAt, state]

theorem fullAt_unbound (unbound : (s.position q).state = .empty ∨ (s.position q).state = .binding) :
    fullAt b q s = answer b .unknownTote s := by
  rcases unbound with state | state <;> simp only [fullAt, state]

end

/-- Settles O49: one clause for each state of the position. -/
theorem fullStopsAPosition : Obligations.FullStopsAPosition := by
  intro s b i p j value m t q e taken
  rw [exec_full_taken value taken]
  exact ⟨fun bound order => congrArg _ (fullAt_bound bound order), fun stopped => congrArg _ (fullAt_stopped stopped),
    fun unbound => congrArg _ (fullAt_unbound unbound)⟩

/-! ### REMOVE (O48) -/

/-- R68: the record of an order that a position holds is written CLOSED. -/
theorem closeOrder_of_order (reason : CloseReason) (order : (s.position q).order = some j) : closeOrder q reason s =
    raise .orderClosed (post (s.orderAddr j) [3]
      (post (s.orderAddr j + 0x20) ((s.position q).part q reason (some s.clock)).bytes
        (forgetOrderFlags q { s with wall := s.wall.set q Position.empty }))) := by
  simp only [closeOrder, order]
  rfl

/-- R174: only a PLACE that is still awaited is answered for its position. -/
theorem answerPlace_other {a : Awaited} (r : Reason) (waits : (s.bench (posBench q)).awaited = some a)
    (other : a.ty ≠ .place) : answerPlace q r s = s := by
  simp [answerPlace, waits, other]

/-- R61: the order is withdrawn, then written CLOSED, then its early removal is reported. -/
theorem removeAt_bound (bound : (s.position q).state = .bound) (order : (s.position q).order = some j) : removeAt q s =
    report { kind := .removedEarly, bench := some (posBench q), order := some j, tag := some (s.position q).scanned }
      (closeOrder q .removedEarly (withdrawAcceptance j .orderAbsent s)) := by
  simp only [removeAt, bound, order]

/-- Settles O48: one clause for each state of the position, whether the REMOVE finds none awaited or ends an awaited PLACE. -/
theorem removeEndsABinding : Obligations.RemoveEndsABinding := by
  intro s b i p j value m q outcomes u ended
  have at_state : ∀ (t : State) (a : Awaited), (t.bench b).awaited = some a → a.ty = .remove →
      exec (.remove b p) s = .next (settle (answer b .accept (removeAt q t))) → outcomes t := by
    intro t a waits remove ran
    simp only [outcomes, ran]
    refine ⟨fun bound order => ?_, fun complete order => ?_, fun full order => ?_, fun closing order => ?_,
      fun binding => ?_, fun empty => ?_⟩
    all_goals refine congrArg (fun v => Host.Outcome.next (settle (answer b .accept v))) ?_
    · have same : (withdrawAcceptance j .orderAbsent t).position q = t.position q := by simp [State.position]
      rw [removeAt_bound bound order, closeOrder_of_order (j := j) _ (by rw [same, order]), same, posBench_putPos]
      simp [Position.part, State.clock]
    · simp only [removeAt, complete]
      exact closeOrder_of_order _ order
    · simp only [removeAt, full]
      exact closeOrder_of_order _ order
    · simp only [removeAt, closing]
      exact closeOrder_of_order _ order
    · simp only [removeAt, binding]
      refine answerPlace_other (a := a) _ ?_ (by rw [remove]; nofun)
      rw [posBench_putPos]
      exact waits
    · simp only [removeAt, empty]
  refine ⟨fun taken => at_state _ _ (panelState_awaited m s) rfl (exec_remove_taken value taken),
    fun w waits place same => ⟨?_, ?_⟩⟩
  · simp only [ended, answer, waits, place, same]
  · exact at_state _ _ (setAwaited_awaited _ _ _) rfl (exec_remove_overPlace value waits place same)

end Sys2Proof.Machine
end

section
/-! SUPPORT. The read of a binding's order record (O25). -/

namespace Sys2Proof.Machine

theorem exec_orderRecordReadReturn {s : State} {id j : Nat} {q : PutPos} {data : List Byte} (length : data.length = 32)
    (h : s.reading id (.orderRecord q j)) :
    exec (.orderRecordReadReturn id data) s = .next (settle (orderRecordReturned q j data (endRead id s))) :=
  (if_pos length).trans (congrArg Host.Outcome.next (withRead_reading (a := (q, j)) h (by rfl)))

section
variable {s : State} {q : PutPos} {j : Nat} {data : List Byte}

/-- R61: a position whose binding was abandoned only loses its stale flag. -/
theorem orderRecordReturned_stale (stale : (s.position q).stale = true) :
    orderRecordReturned q j data s = setPosition q { s.position q with stale := false } s := if_pos stale

/-- A BINDING position at step READ that claims j, its stale flag clear. -/
def State.claims (s : State) (q : PutPos) (j : Nat) : Prop :=
  (s.position q).stale = false ∧ (s.position q).state = .binding ∧ (s.position q).step = .read
  ∧ (s.position q).order = some j

/-- R59: the first check of the record that does not pass decides what becomes of the binding. -/
theorem orderRecordReturned_claims (claims : s.claims q j) : orderRecordReturned q j data s =
    if (parseOrder data).state ≠ statePosted then failBinding q .unknownTote s
    else if !(parseOrder data).checkOk then
      report { kind := .checkFail, bench := some (posBench q), order := some j, tag := some (s.position q).scanned }
        (failBinding q .unknownTote s)
    else if (parseOrder data).tag ≠ (s.position q).scanned then failBinding q .unknownTote s
    else if (parseOrder data).bench ≠ (posBench q).val then failBinding q .wrongBench s
    else bindOrder q j (parseOrder data) s := by
  obtain ⟨fresh, binding, reading, order⟩ := claims
  exact (if_neg (by rw [fresh]; nofun)).trans (if_pos ⟨binding, reading, order⟩)

theorem orderRecordReturned_notPosted (claims : s.claims q j) (unposted : (parseOrder data).state ≠ 1) :
    orderRecordReturned q j data s = failBinding q .unknownTote s :=
  (orderRecordReturned_claims claims).trans (if_pos unposted)

theorem orderRecordReturned_checkFail (claims : s.claims q j) (posted : (parseOrder data).state = 1)
    (bad : checkCorrect data = false) : orderRecordReturned q j data s =
    report { kind := .checkFail, bench := some (posBench q), order := some j, tag := some (s.position q).scanned }
      (failBinding q .unknownTote s) := by
  have checkOk : (parseOrder data).checkOk = false := bad
  simp [orderRecordReturned_claims claims, statePosted, posted, checkOk]

section
variable (claims : s.claims q j) (posted : (parseOrder data).state = 1) (check : checkCorrect data = true)
include claims posted check

theorem orderRecordReturned_sound : orderRecordReturned q j data s =
    if (parseOrder data).tag ≠ (s.position q).scanned then failBinding q .unknownTote s
    else if (parseOrder data).bench ≠ (posBench q).val then failBinding q .wrongBench s
    else bindOrder q j (parseOrder data) s := by
  have checkOk : (parseOrder data).checkOk = true := check
  simp [orderRecordReturned_claims claims, statePosted, posted, checkOk]

theorem orderRecordReturned_otherTag (other : (parseOrder data).tag ≠ (s.position q).scanned) :
    orderRecordReturned q j data s = failBinding q .unknownTote s :=
  (orderRecordReturned_sound claims posted check).trans (if_pos other)

theorem orderRecordReturned_otherBench (tag : (parseOrder data).tag = (s.position q).scanned)
    (other : (parseOrder data).bench ≠ (posBench q).val) :
    orderRecordReturned q j data s = failBinding q .wrongBench s := by
  simp [orderRecordReturned_sound claims posted check, tag, other]

theorem orderRecordReturned_bound (tag : (parseOrder data).tag = (s.position q).scanned)
    (bench : (parseOrder data).bench = (posBench q).val) :
    orderRecordReturned q j data s = bindOrder q j (parseOrder data) s := by
  simp [orderRecordReturned_sound claims posted check, tag, bench]

end

/-- R60: the position of a record that is bound now; it keeps its order, its scanned tag and its flags. -/
def Position.bound (o : OrderBytes) (clock : Word) (e : Position) : Position :=
  { e with
    state := .bound, linesExpected := o.linesExpected, deadline := o.deadline, linesCompleted := 0, unitsPut := 0,
    timeBound := clock, late := beyond clock o.deadline }

/-- R60: the claim is the order that is bound. -/
theorem bindOrder_of_order (o : OrderBytes) (order : (s.position q).order = some j) : bindOrder q j o s =
    (let e := (s.position q).bound o s.clock
     let t := answerPlace q .accept (writeOrder j (e.part q .none none) stateBound (setPosition q e s))
     if e.late then raise .lateOrder t else t) := by
  have same : { s.position q with
      state := .bound, order := some j, linesExpected := o.linesExpected, deadline := o.deadline, linesCompleted := 0,
      unitsPut := 0, timeBound := s.clock, late := beyond s.clock o.deadline } = (s.position q).bound o s.clock := by
    rw [← order]
    rfl
  simp only [bindOrder, same]
  rfl

end

/-- Settles O25: the stale flag, then the checks of R59 in their order, then the binding of R60. -/
theorem orderRecordReadBindsOrRefuses : Obligations.OrderRecordReadBindsOrRefuses := by
  intro s id q j data reading length t e o claims
  rw [exec_orderRecordReadReturn length reading]
  refine ⟨fun stale => ?_, fun claim unposted => ?_, fun claim posted bad => ?_, fun claim posted check other => ?_,
    fun claim posted check tag other => ?_, fun claim posted check tag bench => ?_⟩
  all_goals refine congrArg (fun v => Host.Outcome.next (settle v)) ?_
  · exact orderRecordReturned_stale (s := t) stale
  · exact orderRecordReturned_notPosted (s := t) claim unposted
  · exact orderRecordReturned_checkFail (s := t) claim posted bad
  · exact orderRecordReturned_otherTag (s := t) claim posted check other
  · exact orderRecordReturned_otherBench (s := t) claim posted check tag other
  · obtain ⟨fresh, binding, reading, order⟩ := claim
    exact (orderRecordReturned_bound (s := t) ⟨fresh, binding, reading, order⟩ posted check tag bench).trans
      (bindOrder_of_order (s := t) o order)

end Sys2Proof.Machine
end

section
/-! SUPPORT. The events of one floor second (O29): a deadline, a warning, a recall and a ready wait, due or not. -/

namespace Sys2Proof.Machine

variable {s : State}

/-! ### An event as a row of its own -/

theorem timedEvent_due {e : TimedEvent} (due : s.timedDue e = true) : timedEvent e s = settle (takeTimed e s) := if_pos due

theorem timedEvent_notDue {e : TimedEvent} (early : s.timedDue e = false) : timedEvent e s = s :=
  if_neg (Bool.eq_false_iff.mp early)

theorem timedDue_inactive (e : TimedEvent) (off : s.active = false) : s.timedDue e = false := by
  simp only [State.timedDue, off, Bool.false_and]

/-! ### Deadlines (R69) -/

theorem timedEvent_deadline {q : PutPos} (on : s.active = true) (due : s.lateDue q = true) : timedEvent (.deadline q) s =
    settle (raise .lateOrder (setPosition q { s.position q with late := true } s)) := by
  have due' : s.timedDue (.deadline q) = true := by simp [State.timedDue, on, due]
  simp [timedEvent_due, takeTimed, due', findLate, due, updatePosition]

theorem timedEvent_deadline_early {q : PutPos} (early : s.lateDue q = false) : timedEvent (.deadline q) s = s :=
  timedEvent_notDue (by simp [State.timedDue, early])

/-! ### Warnings and recalls (R131, R132, R134) -/

/-- R131: what a warning that is due does. -/
def recordWarned (r : Exposure) (s : State) : State :=
  countForTaking r.card r.seq (fun k => { k with exposureWarns := k.exposureWarns + 1 })
    (raise .exposure (portCue r.port .exposure (updateExposure r.card r.seq (fun x => { x with warned := true }) s)))

/-- R132: what a recall that is due does, up to the overdue mark. -/
def recordRecalled (r : Exposure) (s : State) : State :=
  countForTaking r.card r.seq (fun k => { k with recalls := k.recalls + 1 })
    (raise .exposure (recallTaking r.card r.seq (updateExposure r.card r.seq (fun x => { x with recalled := true }) s)))

theorem warnRecord_of_record {r : Exposure} (found : s.findExposure r.card r.seq = some r) :
    warnRecord r.card r.seq s = if r.warnDue then recordWarned r s else s := by
  rw [warnRecord, found]
  rfl

/-- The record of a card index is the record of its own taking. -/
theorem findExposure_of_recordOf {card : Nat} {r : Exposure} (found : s.recordOf card = some r) :
    s.findExposure r.card r.seq = some r := by
  obtain ⟨same, before, after, split, none⟩ := List.find?_eq_some_iff_append.mp found
  refine List.find?_eq_some_iff_append.mpr ⟨by simp, before, after, split, fun x mem => ?_⟩
  have other := none x mem
  simp_all

/-- A record changed without its card and taking is found in its place. -/
theorem findExposure_updateExposure {r : Exposure} {f : Exposure → Exposure}
    (keeps : ∀ x, (f x).card = x.card ∧ (f x).seq = x.seq) (found : s.findExposure r.card r.seq = some r) :
    (updateExposure r.card r.seq f s).findExposure r.card r.seq = some (f r) := by
  have named : ∀ x : Exposure, (((fun x => x.card == r.card && x.seq == r.seq) : Exposure → Bool) ∘
      fun x => if x.card == r.card && x.seq == r.seq then f x else x) x = (x.card == r.card && x.seq == r.seq) := by
    intro x
    simp only [Function.comp]
    split <;> simp [keeps x]
  rw [State.findExposure] at found
  rw [State.findExposure, updateExposure, List.find?_map, funext named, found]
  simp

theorem updateExposure_taking {card : Nat} {seq : Word} (a : Nat) (b : Word) (f : Exposure → Exposure) (s : State) :
    (updateExposure a b f s).taking card seq = s.taking card seq := rfl

theorem recordWarned_exposures (r : Exposure) (s : State) : (recordWarned r s).exposures =
    (updateExposure r.card r.seq (fun x => { x with warned := true }) s).exposures := by
  unfold recordWarned countForTaking
  split <;> simp

theorem findExposure_warned {r : Exposure} (found : s.findExposure r.card r.seq = some r) :
    (recordWarned r s).findExposure r.card r.seq = some { r with warned := true } := by
  rw [State.findExposure, recordWarned_exposures]
  exact findExposure_updateExposure (f := fun x => { x with warned := true }) (fun _ => ⟨rfl, rfl⟩) found

theorem recallRecord_of_record {r : Exposure} (found : s.findExposure r.card r.seq = some r) :
    recallRecord r.card r.seq s = if r.recallDue then markOverdue r (recordRecalled r s) else s := by
  rw [recallRecord, found]
  rfl

/-- R132: the warning that is due comes first; it changes neither the recall nor the overdue mark. -/
theorem compareRecord_due {r : Exposure} (found : s.findExposure r.card r.seq = some r) (due : r.recallDue = true) :
    compareRecord r.card r.seq s = markOverdue r (recordRecalled r (if r.warnDue then recordWarned r s else s)) := by
  have still : ({ r with warned := true } : Exposure).recallDue = true := due
  have recalled : ∀ u, recordRecalled { r with warned := true } u = recordRecalled r u := fun _ => rfl
  have overdue : ∀ u, markOverdue { r with warned := true } u = markOverdue r u := fun _ => rfl
  rw [compareRecord, warnRecord_of_record found]
  split
  · have marked := findExposure_warned found
    have warned := recallRecord_of_record (r := { r with warned := true }) marked
    rw [if_pos still, recalled, overdue] at warned
    exact warned
  · rw [recallRecord_of_record found, if_pos due]

@[simp] theorem countForTaking_mga (card : Nat) (seq : Word) (f : BenchCounters → BenchCounters) (s : State) :
    (countForTaking card seq f s).mga = s.mga := by
  unfold countForTaking
  split <;> simp

@[simp] theorem recallTaking_holdTimer (card : Nat) (seq : Word) (s : State) :
    (recallTaking card seq s).mga.holdTimer = s.mga.holdTimer := by
  have heads := lanes_foldl _ (fun t p => lanes_recallHead card seq p t) allPorts
    (updateTaking card seq (fun c => { c with recalled := true }) s)
  rw [recallTaking, heads.rest]
  rfl

/-- R150: neither a warning nor a recall touches the return hold. -/
theorem recordRecalled_holdTimer (r : Exposure) (s : State) :
    (recordRecalled r (if r.warnDue then recordWarned r s else s)).mga.holdTimer = s.mga.holdTimer := by
  simp only [recordRecalled, countForTaking_mga, raise_mga, recallTaking_holdTimer, updateExposure_mga]
  split <;> simp [recordWarned]

theorem markOverdue_calm (r : Exposure) (calm : s.mga.holdTimer = 0) : markOverdue r s = s := if_pos calm

section
variable {r : Exposure} (hold : s.mga.holdTimer ≠ 0)
include hold

theorem markOverdue_held {c : CardCtx} (held : s.taking r.card r.seq = some c) : markOverdue r s =
    report { kind := .exposureOverdue, bench := some c.bench, port := some (portByte r.port), card := some r.card,
             tag := some c.tag } (updateExposure r.card r.seq (fun x => { x with overdue := true }) s) := by
  simp only [markOverdue, if_neg hold, held]

theorem markOverdue_gone (gone : s.taking r.card r.seq = none) :
    markOverdue r s = updateExposure r.card r.seq (fun x => { x with overdue := true }) s := by
  simp only [markOverdue, if_neg hold, gone]

end

section
variable {card : Nat} {r : Exposure}

theorem timedEvent_warning (on : s.active = true) (found : s.recordOf card = some r) (due : r.warnDue = true) :
    timedEvent (.warning card) s = settle (recordWarned r s) := by
  have isDue : s.timedDue (.warning card) = true := by simp [State.timedDue, on, found, due]
  rw [timedEvent_due isDue, takeTimed, if_pos isDue]
  simp only [found]
  rw [warnRecord_of_record (findExposure_of_recordOf found), if_pos due]

theorem timedEvent_recall (on : s.active = true) (found : s.recordOf card = some r) (due : r.recallDue = true) :
    timedEvent (.recall card) s =
      settle (markOverdue r (recordRecalled r (if r.warnDue then recordWarned r s else s))) := by
  have isDue : s.timedDue (.recall card) = true := by simp [State.timedDue, on, found, due]
  rw [timedEvent_due isDue, takeTimed, if_pos isDue]
  simp only [found]
  rw [compareRecord_due (findExposure_of_recordOf found) due]

end

/-! ### Ready waits (R76) -/

section
variable {card : Nat} {c : CardCtx}

theorem waitPassed_iff : s.waitPassed c = true ↔
    s.live.readyWait ≠ 0 ∧ c.timeTaken.toNat + s.live.readyWait < s.pau.floorClock.toNat := by
  rw [State.waitPassed, Bool.and_eq_true, bne_iff_ne, decide_eq_true_iff, State.clock]

theorem timedEvent_readyWait (on : s.active = true) (staged : s.stagedCard card = some c) (passed : s.waitPassed c = true) :
    timedEvent (.readyWait card) s = settle (lookAtWait c s) := by
  have isDue : s.timedDue (.readyWait card) = true := by simp [State.timedDue, on, staged, passed]
  rw [timedEvent_due isDue, takeTimed, if_pos isDue]
  simp only [staged]

theorem timedDue_readyWait_early (staged : s.stagedCard card = some c)
    (early : s.live.readyWait = 0 ∨ s.pau.floorClock.toNat ≤ c.timeTaken.toNat + s.live.readyWait) :
    s.timedDue (.readyWait card) = false := by
  have waits : s.waitPassed c = false := by
    rw [← Bool.not_eq_true, waitPassed_iff]
    rcases early with unset | within
    · exact fun passed => passed.left unset
    · exact fun passed => Nat.not_lt.mpr within passed.right
  simp [State.timedDue, staged, waits]

end

/-- Settles O29: for each event the effect when it is due, then the ways in which it is not. -/
theorem timedEventsWhenDue : Obligations.TimedEventsWhenDue := by
  intro s pos card warned recalled
  refine ⟨fun on bound fresh passed => ?_, fun early => ?_, fun r on found due => ?_, fun r found early => ?_,
    fun r on found due => ?_, fun r found early => ?_, fun nobody => ⟨?_, ?_⟩, fun c on staged set passed => ?_,
    fun c staged early => ?_, fun nobody => ?_, fun off => ⟨?_, ?_, ?_, ?_⟩⟩
  · have late : s.lateDue pos = true := by simp [State.lateDue, bound, fresh, beyond, State.clock, passed]
    exact congrArg Host.Outcome.next (timedEvent_deadline on late)
  · exact congrArg Host.Outcome.next (timedEvent_deadline_early early)
  · exact congrArg Host.Outcome.next (timedEvent_warning on found due)
  · exact congrArg Host.Outcome.next (timedEvent_notDue (by simp [State.timedDue, found, early]))
  · intro u overdue
    have effect : u = recordRecalled r (if r.warnDue then recordWarned r s else s) := rfl
    have ran : exec (.exposureRecall card) s = .next (settle (markOverdue r u)) :=
      effect ▸ congrArg Host.Outcome.next (timedEvent_recall on found due)
    have hold : u.mga.holdTimer = s.mga.holdTimer := effect ▸ recordRecalled_holdTimer r s
    clear_value u
    have stands : s.mga.holdTimer ≠ 0 → u.mga.holdTimer ≠ 0 := fun held calm => held (hold.symm.trans calm)
    rw [ran]
    refine ⟨fun calm => ?_, fun c held taking => ?_, fun held gone => ?_⟩
    · rw [markOverdue_calm r (hold.trans calm)]
    · rw [markOverdue_held (stands held) ((updateExposure_taking _ _ _ u).symm.trans taking)]
    · rw [markOverdue_gone (stands held) ((updateExposure_taking _ _ _ u).symm.trans gone)]
  · exact congrArg Host.Outcome.next (timedEvent_notDue (by simp [State.timedDue, found, early]))
  · exact congrArg Host.Outcome.next (timedEvent_notDue (by simp [State.timedDue, nobody]))
  · exact congrArg Host.Outcome.next (timedEvent_notDue (by simp [State.timedDue, nobody]))
  · exact congrArg Host.Outcome.next (timedEvent_readyWait on staged (waitPassed_iff.mpr ⟨set, passed⟩))
  · exact congrArg Host.Outcome.next (timedEvent_notDue (timedDue_readyWait_early staged early))
  · exact congrArg Host.Outcome.next (timedEvent_notDue (by simp [State.timedDue, nobody]))
  all_goals exact congrArg Host.Outcome.next (timedEvent_notDue (timedDue_inactive _ off))

end Sys2Proof.Machine
end

section
/-! SUPPORT. Open ports (O55) and what follows an event at once (O56): the frame of settling, readiness and the cold rule, the
choices of the Call Selector, and the making of a call. -/

namespace Sys2Proof.Machine

variable {s : State}

/-! ### Open ports (R74, R116) -/

theorem headStuck_iff {p : Port} : s.headStuck p = true ↔ ∃ e, (s.lane p).head? = some e ∧ e.state = .stuck := by
  unfold State.headStuck State.head
  cases (s.lane p).head? <;> simp

theorem headStuck_eq_false_iff {p : Port} :
    s.headStuck p = false ↔ ∀ e, (s.lane p).head? = some e → e.state ≠ .stuck := by
  rw [← Bool.not_eq_true, headStuck_iff]
  simp

theorem staffed_iff {b : Bench} : s.staffed b = true ↔ (s.bench b).staffing = .staffed := beq_iff_eq

/-- R74, R116: what every port needs to be open. -/
theorem portRoom_iff {p : Port} : s.portRoom p = true ↔ s.pau.runState = .running ∧ s.glc.link.up = true
    ∧ s.st.portPresent p = true ∧ s.reservations p < s.st.laneDepth[p]
    ∧ ∀ e, (s.lane p).head? = some e → e.state ≠ .stuck := by
  simp only [State.portRoom, Bool.and_eq_true, Bool.not_eq_true', headStuck_eq_false_iff, beq_iff_eq, decide_eq_true_iff,
    and_assoc]

/-- R74: an own port is open when its bench is STAFFED too. -/
theorem openOwn_iff {b : Bench} {p : Port} :
    s.openOwn b p = true ↔ (s.bench b).staffing = .staffed ∧ s.portRoom p = true := by
  rw [State.openOwn, Bool.and_eq_true, staffed_iff]

theorem wantsHold_of_stuck {p : Port} (present : s.st.portPresent p = true) (stuck : s.headStuck p = true) :
    s.wantsHold p = true := by
  rw [State.wantsHold, present, stuck, Bool.true_or, Bool.and_self]

/-- Settles O55. -/
theorem openPorts : Obligations.OpenPorts := by
  intro s b p q
  refine ⟨?_, portRoom_iff, rfl, fun e present head stuck => ?_⟩
  · rw [openOwn_iff, portRoom_iff]
    exact ⟨fun ⟨staffed, running, up, rest⟩ => ⟨running, up, staffed, rest⟩,
      fun ⟨running, up, staffed, rest⟩ => ⟨staffed, running, up, rest⟩⟩
  · exact wantsHold_of_stuck present (headStuck_iff.mpr ⟨e, head, stuck⟩)

/-! ### The frame of settling (R36, R79, R143, R164, R192) -/

theorem settle_inactive (off : s.active = false) : settle s = s := if_neg (Bool.eq_false_iff.mp off)

theorem settle_active (on : s.active = true) :
    settle s = drainTest (beginTakes (selectCalls (mergeStep (refreshHolds s)))) := if_pos on

/-- Holds, the merge's step, calls and takes together. -/
theorem settled_beforeDrainTest (s : State) :
    Settled s (beginTakes (selectCalls (mergeStep (refreshHolds s)))) :=
  (((settled_refreshHolds s).trans (settled_mergeStep _)).trans (settled_selectCalls _)).trans (settled_beginTakes _)

theorem setRunState_runState (r : RunState) (s : State) : (setRunState r s).pau.runState = r := by
  obtain ⟨n, ev, g, w, h⟩ := setRunState_changes r s
  rw [h]

theorem endDrain_runState (s : State) : (endDrain s).pau.runState = .stopped := by
  have stops : ∃ t, endDrain s = setRunState .stopped t := ⟨_, rfl⟩
  obtain ⟨t, h⟩ := stops
  rw [h, setRunState_runState]

theorem drainTest_cases (s : State) :
    drainTest s = s ∨ (s.pau.runState = .draining ∧ (drainTest s).pau.runState = .stopped) := by
  unfold drainTest
  split
  next ends => exact .inr ⟨ends.left, endDrain_runState s⟩
  · exact .inl rfl

/-- Settling either ends a drain, or leaves all that `Settled` names. -/
theorem settle_cases (s : State) :
    Settled s (settle s) ∨ (s.pau.runState = .draining ∧ (settle s).pau.runState = .stopped) := by
  cases on : s.active with
  | false => exact .inl ((settle_inactive on).symm ▸ Settled.refl s)
  | true =>
    have frame := settled_beforeDrainTest s
    rw [settle_active on]
    rcases drainTest_cases (beginTakes (selectCalls (mergeStep (refreshHolds s)))) with stays | ⟨draining, stopped⟩
    · exact .inl (stays.symm ▸ frame)
    · exact .inr ⟨frame.pau ▸ draining, stopped⟩

theorem settle_settled (same : (settle s).pau.runState = s.pau.runState) : Settled s (settle s) := by
  refine (settle_cases s).resolve_right fun ⟨draining, stopped⟩ => ?_
  rw [stopped, draining] at same
  exact absurd same (by decide)

/-! ### Readiness, urgency and the cold rule (R75 to R78) -/

section
variable {c : CardCtx}

theorem Query.isAccepting_iff {a : Query} : a.isAccepting = true ↔ ∃ pos d, a = .accepting pos d := by
  cases a <;> simp [Query.isAccepting]

theorem ready_iff : s.ready c = true ↔ ∀ l ∈ c.lines, ∃ pos d, s.ask l.order c.benches = .accepting pos d := by
  simp only [State.ready, State.answers, List.all_map, List.all_eq_true, Function.comp, Query.isAccepting_iff]

theorem someAccepting_iff :
    s.someAccepting c = true ↔ ∃ l ∈ c.lines, ∃ pos d, s.ask l.order c.benches = .accepting pos d := by
  simp only [State.someAccepting, State.answers, List.any_map, List.any_eq_true, Function.comp, Query.isAccepting_iff]

theorem callable_iff : s.callable c = true ↔ s.ready c = true
    ∨ (s.live.readyWait ≠ 0 ∧ c.timeTaken.toNat + s.live.readyWait < s.pau.floorClock.toNat
        ∧ ∃ l ∈ c.lines, ∃ pos d, s.ask l.order c.benches = .accepting pos d) := by
  rw [State.callable, Bool.or_eq_true, Bool.and_eq_true, waitPassed_iff, someAccepting_iff, and_assoc]

theorem rushDeadline_iff {d : Word} :
    s.rushDeadline d = true ↔ d ≠ 0xFFFFFFFF ∧ d.toNat ≤ s.pau.floorClock.toNat + s.live.rushMargin := by
  rw [State.rushDeadline, Bool.and_eq_true, bne_iff_ne, decide_eq_true_iff, State.clock]

theorem rush_iff : s.rush c = true ↔ ∃ l ∈ c.lines, ∃ pos d, s.ask l.order c.benches = .accepting pos d
    ∧ d ≠ 0xFFFFFFFF ∧ d.toNat ≤ s.pau.floorClock.toNat + s.live.rushMargin := by
  simp only [State.rush, State.answers, List.any_map, List.any_eq_true, Function.comp]
  refine exists_congr fun l => and_congr_right fun _ => ?_
  cases s.ask l.order c.benches with
  | accepting pos d =>
    refine ⟨fun due => ⟨pos, d, rfl, rushDeadline_iff.mp due⟩, fun ⟨_, _, same, due⟩ => ?_⟩
    cases same
    exact rushDeadline_iff.mpr due
  | notAccepting => exact iff_of_false Bool.false_ne_true fun ⟨_, _, same, _⟩ => nomatch same
  | absent => exact iff_of_false Bool.false_ne_true fun ⟨_, _, same, _⟩ => nomatch same

theorem CardClass.cold_iff {k : CardClass} : k.cold = true ↔ k ≠ .ambient := by cases k <;> decide

theorem Entry.coldPending_iff {e : Entry} : e.coldPending = true ↔ ∃ k, e.card = some k ∧ k.cls ≠ .ambient
    ∧ (e.state = .queued ∨ (e.state = .waitingBench ∧ k.timePresented = none)) := by
  unfold Entry.coldPending
  cases e.card <;> simp [CardClass.cold_iff, CardCtx.presented]

theorem coldPending_iff {p : Port} : s.coldPending p = true ↔
    (∃ x ∈ s.lnc.calls, x.port = p ∧ x.card.cls ≠ .ambient) ∨ ∃ e ∈ s.lane p, e.coldPending = true := by
  simp [State.coldPending, State.portCalls, CardClass.cold_iff]

theorem coldAllows_iff {p : Port} : s.coldAllows c p = true ↔
    c.cls = .ambient ∨ ((∀ x ∈ s.lnc.calls, x.port = p → x.card.cls = .ambient)
      ∧ ∀ e ∈ s.lane p, ∀ k, e.card = some k → k.cls ≠ .ambient →
          ¬(e.state = .queued ∨ (e.state = .waitingBench ∧ k.timePresented = none))) := by
  have pending : s.coldAllows c p = true ↔ c.cls = .ambient ∨ ¬s.coldPending p = true := by
    rw [State.coldAllows, Bool.not_eq_true', Bool.and_eq_false_iff, ← Bool.not_eq_true, ← Bool.not_eq_true,
      CardClass.cold_iff, Classical.not_not]
  simp only [pending, coldPending_iff, Entry.coldPending_iff, not_or, not_exists, not_and, ne_eq,
    Classical.not_not]

end

/-! ### The own-port choice (R79) -/

theorem fewest_eq_none_iff {ps : List Port} : s.fewest ps = none ↔ ps = [] := by
  cases ps with
  | nil => simp [State.fewest]
  | cons p rest =>
    refine iff_of_false ?_ (List.cons_ne_nil p rest)
    rw [State.fewest]
    split
    · exact Option.some_ne_none p
    · split <;> exact Option.some_ne_none _

/-- Of ports in ascending order, the one chosen has the fewest reservations and of those the lowest number. -/
theorem fewest_least {ps : List Port} {p : Port} (ascending : ps.Pairwise (· < ·)) (chosen : s.fewest ps = some p) :
    p ∈ ps ∧ ∀ r ∈ ps, s.reservations p < s.reservations r ∨ (s.reservations p = s.reservations r ∧ p ≤ r) := by
  induction ps generalizing p with
  | nil => exact absurd chosen (by simp [State.fewest])
  | cons a rest ih =>
    obtain ⟨below, ascending⟩ := List.pairwise_cons.mp ascending
    simp only [State.fewest] at chosen
    cases found : s.fewest rest with
    | none =>
      rw [found] at chosen
      cases chosen
      simp [fewest_eq_none_iff.mp found]
    | some q =>
      obtain ⟨mem, least⟩ := ih ascending found
      simp only [found] at chosen
      split at chosen
      next fewer =>
        cases chosen
        refine ⟨List.mem_cons_self, List.forall_mem_cons.mpr ⟨.inr ⟨rfl, Nat.le_refl _⟩, fun r inRest => ?_⟩⟩
        rcases least r inRest with less | ⟨equal, -⟩
        · exact .inl (Nat.lt_of_le_of_lt fewer less)
        · exact (Nat.lt_or_eq_of_le (equal ▸ fewer)).imp_right fun same => ⟨same, Nat.le_of_lt (below r inRest)⟩
      next more =>
        cases chosen
        exact ⟨List.mem_cons_of_mem _ mem, List.forall_mem_cons.mpr ⟨.inl (Nat.lt_of_not_le more), least⟩⟩

theorem ownPorts_ascending (b : Bench) : (ownPorts b).Pairwise (· < ·) := by simp [ownPorts]

section
variable {c : CardCtx} {p : Port}

theorem mem_ownSet_iff :
    p ∈ s.ownSet c ↔ p ∈ ownPorts c.bench ∧ s.openOwn c.bench p = true ∧ s.coldAllows c p = true := by
  rw [State.ownSet, List.mem_filter, Bool.and_eq_true]

theorem fewest_ownSet (chosen : s.fewest (s.ownSet c) = some p) :
    p ∈ ownPorts c.bench ∧ s.openOwn c.bench p = true ∧ s.coldAllows c p = true
    ∧ ∀ r ∈ ownPorts c.bench, s.openOwn c.bench r = true → s.coldAllows c r = true →
        s.reservations p < s.reservations r ∨ (s.reservations p = s.reservations r ∧ p ≤ r) := by
  obtain ⟨mem, least⟩ := fewest_least ((ownPorts_ascending c.bench).filter _) chosen
  obtain ⟨own, opened, allowed⟩ := mem_ownSet_iff.mp mem
  exact ⟨own, opened, allowed, fun r own opened allowed => least r (mem_ownSet_iff.mpr ⟨own, opened, allowed⟩)⟩

/-- The card chosen is the first in order of urgency that has a port of its own to go to. -/
theorem ownChoice_first {b : Bench} (chosen : s.ownChoice b = some (c, p)) :
    (∃ passed others, s.byUrgency ((s.staged b).filter (fun x => !x.twin && s.callable x)) = passed ++ c :: others
      ∧ ∀ x ∈ passed, s.ownSet x = [])
    ∧ s.fewest (s.ownSet c) = some p := by
  obtain ⟨passed, d, others, split, choice, none⟩ := List.findSome?_eq_some_iff.mp chosen
  obtain ⟨r, least, same⟩ := Option.map_eq_some_iff.mp choice
  cases same
  exact ⟨⟨passed, others, split, fun x mem => fewest_eq_none_iff.mp (Option.map_eq_none_iff.mp (none x mem))⟩, least⟩

end

/-! ### The shared-port choice (R117, R118) -/

theorem twinCandidates_eq (s : State) (q : Fin 2) : s.twinCandidates q =
    if (s.bench (lowerBench q)).staffing = .staffed ∨ (s.bench (upperBench q)).staffing = .staffed then
      (s.staged (lowerBench q)).filter (fun x => x.twin && s.callable x && s.coldAllows x (sharedPort q)) else [] := by
  simp [State.twinCandidates, pairBenches, staffed_iff]

theorem ownSet_isEmpty (s : State) (c : CardCtx) : (s.ownSet c).isEmpty =
    (ownPorts c.bench).all (fun r => !(s.openOwn c.bench r && s.coldAllows c r)) := by
  rw [State.ownSet, Bool.eq_iff_iff]
  simp only [List.isEmpty_iff, List.filter_eq_nil_iff, List.all_eq_true, Bool.not_eq_true', Bool.not_eq_true]

theorem lendCandidates_eq (s : State) (q : Fin 2) (b : Bench) : s.lendCandidates q b =
    if b ∈ s.st.lendBenches q ∧ (s.bench b).staffing = .staffed then
      (s.staged b).filter (fun x => !x.twin && s.callable x && s.coldAllows x (sharedPort q)
        && (ownPorts x.bench).all (fun r => !(s.openOwn x.bench r && s.coldAllows x r))) else [] := by
  simp only [State.lendCandidates, Bool.and_eq_true, List.contains_iff_mem, staffed_iff, ownSet_isEmpty]

theorem lendChoice_eq (s : State) (q : Fin 2) (sel : CardCtx → Bool) : s.lendChoice q sel =
    ((s.lendCandidates q (otherBench q s.lastLent[q])).find? sel).or ((s.lendCandidates q s.lastLent[q]).find? sel) := by
  unfold State.lendChoice
  split
  next found => rw [found, Option.some_or]
  next found => rw [found, Option.none_or]

theorem findSome?_id_cons {α : Type} (x : Option α) (xs : List (Option α)) :
    (x :: xs).findSome? id = x.or (xs.findSome? id) := by cases x <;> rfl

/-- R118: RUSH before the others, within each TWIN before lend candidates. -/
theorem sharedChoice_eq (s : State) (q : Fin 2) : s.sharedChoice q = if s.portRoom (sharedPort q) then
    ((((s.twinCandidates q).find? s.rush).or (s.lendChoice q s.rush)).or
      (((s.twinCandidates q).find? (fun x => !s.rush x)).or (s.lendChoice q (fun x => !s.rush x)))).map
        (fun c => (c, sharedPort q)) else none := by
  simp only [State.sharedChoice, findSome?_id_cons, List.findSome?_nil, Option.or_none, Option.or_assoc]

/-! ### Calls made one by one (R79, R118) -/

theorem callLoop_succ (n : Nat) (s : State) : callLoop (n + 1) s = (chooseOnce s).elim s (callLoop n) := by
  rw [callLoop]
  cases chooseOnce s <;> rfl

theorem callLoop_none (stop : chooseOnce s = none) (n : Nat) : callLoop n s = s := by
  cases n with
  | zero => rfl
  | succ n => rw [callLoop_succ, stop, Option.elim_none]

theorem chooseOnce_none (closed : s.choices = []) : chooseOnce s = none := by rw [chooseOnce, closed]

/-- Where a choice is open, one of those open is made. -/
theorem chooseOnce_some (opened : s.choices ≠ []) :
    ∃ x ∈ s.choices, ∃ k, chooseOnce s = some (makeCall x.1 x.2 { s with freeCount := k }) := by
  unfold chooseOnce
  split
  next closed => exact absurd closed opened
  next x one => exact ⟨x, one ▸ List.mem_cons_self, s.freeCount, rfl⟩
  next x rest _ several =>
    have place : Config.freeChoice s.freeCount % (rest.length + 1) < (x :: rest).length := Nat.mod_lt _ (Nat.succ_pos _)
    refine ⟨_, ?_, s.freeCount + 1, rfl⟩
    rw [several, List.getD_eq_getElem?_getD, List.getElem?_eq_getElem place]
    exact List.getElem_mem place

theorem mem_choices_iff {x : CardCtx × Port} :
    x ∈ s.choices ↔ (∃ b : Bench, s.ownChoice b = some x) ∨ ∃ q : Fin 2, s.sharedChoice q = some x := by
  have benches : ∀ b : Bench, b ∈ allBenches := by decide
  have pairs : ∀ q : Fin 2, q ∈ ([0, 1] : List (Fin 2)) := by decide
  simp only [State.choices, List.mem_append, List.mem_filterMap, benches, pairs, true_and]

/-! ### The making of a call (R80, R119) -/

/-- R80: the numbers passed over are in use, and the number found is free unless the fuel ran out. -/
theorem nextFree_first (used : List Nat) (fuel n : Nat) (small : n < 4096) :
    ∃ k, k ≤ fuel ∧ nextFree used fuel n = (n + k) % 4096 ∧ (∀ i, i < k → (n + i) % 4096 ∈ used)
      ∧ (k < fuel → (n + k) % 4096 ∉ used) := by
  have here : (n + 0) % 4096 = n := Nat.mod_eq_of_lt small
  induction fuel generalizing n with
  | zero => exact ⟨0, Nat.le_refl 0, here.symm, fun i below => absurd below (Nat.not_lt_zero i), fun below => nomatch below⟩
  | succ fuel ih =>
    rw [nextFree]
    split
    next taken =>
      have shifted : ∀ i, ((n + 1) % 4096 + i) % 4096 = (n + (i + 1)) % 4096 := by omega
      obtain ⟨k, within, found, passed, free⟩ := ih ((n + 1) % 4096) (Nat.mod_lt _ (by decide)) (by omega)
      refine ⟨k + 1, Nat.succ_le_succ within, found.trans (shifted k), fun i below => ?_, fun below => ?_⟩
      · cases i with
        | zero => rw [here]; exact List.contains_iff_mem.mp taken
        | succ i => exact shifted i ▸ passed i (Nat.lt_of_succ_lt_succ below)
      · exact shifted k ▸ free (Nat.lt_of_succ_lt_succ below)
    next free =>
      refine ⟨0, Nat.zero_le _, here.symm, fun i below => absurd below (Nat.not_lt_zero i), fun _ => ?_⟩
      rw [here]
      exact fun taken => free (List.contains_iff_mem.mpr taken)

/-- R80: the next free number above the last one given, of 4096. -/
theorem nextCallNumber_first (s : State) :
    ∃ k, k < 4096 ∧ s.nextCallNumber = (s.lnc.lastCall + 1 + k) % 4096
      ∧ (∀ i, i < k → ∃ x ∈ s.lnc.calls, x.number = (s.lnc.lastCall + 1 + i) % 4096)
      ∧ (k < 4095 → ¬∃ x ∈ s.lnc.calls, x.number = (s.lnc.lastCall + 1 + k) % 4096) := by
  obtain ⟨k, within, found, passed, free⟩ := nextFree_first (s.lnc.calls.map (fun c => c.number)) 4095
    ((s.lnc.lastCall + 1) % 4096) (Nat.mod_lt _ (by decide))
  simp only [Nat.mod_add_mod, List.mem_map] at found passed free
  exact ⟨k, Nat.lt_succ_of_le within, found, passed, free⟩

theorem recordLend_other {c : CardCtx} {p : Port} (other : p.val < 8 ∨ c.twin = true) : recordLend c p s = s := by
  unfold recordLend
  rcases other with own | twin
  · rw [portPair, dif_neg (Nat.not_le.mpr own)]
  · simp only [twin, if_true]
    split <;> rfl

theorem recordLend_shared {c : CardCtx} (q : Fin 2) (ordinary : c.twin = false) :
    recordLend c (sharedPort q) s = { s with lastLent := s.lastLent.set q c.bench } := by
  have pair : portPair (sharedPort q) = some q := by revert q; decide
  simp [recordLend, pair, ordinary]

/-- Settles O56: each part of settling by its own lemma above. -/
theorem settlingFrame : Obligations.SettlingFrame := by
  refine ⟨fun s => ⟨settle_inactive, settle_active, fun same => ?_⟩,
    fun s c p => ⟨ready_iff, callable_iff, rush_iff, coldAllows_iff⟩,
    fun s => ⟨rfl, fun n => callLoop_succ n s, fun closed => ?_, chooseOnce_some, fun x => mem_choices_iff⟩,
    fun s b c p chosen => ?_, fun s q => ?_, fun s c p => ?_⟩
  · have frame := settle_settled same
    refine ⟨frame.pau, frame.ttu, frame.wall, frame.exposures, frame.pending, frame.ntu, frame.posted, frame.calls,
      frame.reads, frame.takeSeq, frame.gridUp, fun b => ⟨?_, ?_, ?_, ?_, frame.up b⟩⟩
    all_goals rw [frame.bench b]
  · exact ⟨chooseOnce_none closed, callLoop_none (chooseOnce_none closed) _⟩
  · obtain ⟨⟨passed, others, split, stuck⟩, least⟩ := ownChoice_first chosen
    refine ⟨⟨passed, others, split, fun x mem r own ⟨opened, allowed⟩ => ?_⟩, fewest_ownSet least⟩
    exact List.not_mem_nil (stuck x mem ▸ mem_ownSet_iff.mpr ⟨own, opened, allowed⟩)
  · intro sp first twins lends lend calm
    have twin : s.twinCandidates q = twins := twinCandidates_eq s q
    have lent : ∀ sel, s.lendChoice q sel = lend sel := fun sel => by
      rw [lendChoice_eq, lendCandidates_eq, lendCandidates_eq]
      rfl
    rw [sharedChoice_eq, twin, lent, lent]
  · intro n call made used
    have make : makeCall c p s = recordLend c p made := rfl
    have lastLent : made.lastLent = s.lastLent := by simp [made]
    refine ⟨fun other => make.trans (recordLend_other other), ?_, nextCallNumber_first s⟩
    rintro q rfl ordinary
    rw [make, recordLend_shared q ordinary, lastLent]

end Sys2Proof.Machine
end

section
/-! SUPPORT. The life of a call: its timers (O30, O31) and the grid's answers to it (O30, O39), one equation for each row of
Table 5-2. -/

namespace Sys2Proof.Machine

variable {s : State} {c : Call}

/-! ### A timer of a call ends (R91) -/

section
variable {n : Nat} {runs : Call → Bool} {k : Call → State → State} (found : s.findCall n = some c)
include found

theorem callTimer_runs (on : s.active = true) (running : runs c = true) : callTimer n runs k s = settle (k c s) := by
  simp only [callTimer, found, on, running, Bool.and_self, if_true]

theorem callTimer_stopped (stopped : runs c = false) : callTimer n runs k s = s := by
  simp only [callTimer, found, stopped, Bool.and_false, Bool.false_eq_true, if_false]

end

/-! ### A message that names a call in use (R160, R161) -/

section
variable {n : Half} {payload : Nat} (on : (gridGood payload s).active = true)
  (found : (gridGood payload s).findCall n.toNat = some c)
include on found

theorem gridMessageTaken_forCall (k : Call → State → State) :
    gridMessageTaken payload (forCall n k) s = k c (gridGood payload s) := by
  simp only [gridMessageTaken, on, if_true, forCall, found]

end

section
variable {n : Half} (on : (gridGood 2 s).active = true) (found : (gridGood 2 s).findCall n.toNat = some c)
include on found

theorem exec_callAccept : exec (.callAccept n) s = .next (settle (acceptAnswer c (gridGood 2 s))) :=
  congrArg Host.Outcome.next (gridMessageTaken_forCall on found _)

theorem exec_dispatched : exec (.dispatched n) s = .next (settle (dispatchedAnswer c (gridGood 2 s))) :=
  congrArg Host.Outcome.next (gridMessageTaken_forCall on found _)

end

theorem within_iff {n lo hi : Nat} : within n lo hi = true ↔ lo ≤ n ∧ n ≤ hi := by
  rw [within, Bool.and_eq_true, decide_eq_true_iff, decide_eq_true_iff]

section
variable {n : Half} {code : Byte} (on : (gridGood 3 s).active = true) (found : (gridGood 3 s).findCall n.toNat = some c)
include on found

/-- R83: a refusal with a good reason is counted once, then answered. -/
theorem exec_callRefuse (low : 1 ≤ code.toNat) (high : code.toNat ≤ 3) : exec (.callRefuse n code) s =
    .next (settle (refuseAnswer code.toNat c (count (fun k => { k with refusals := k.refusals + 1 }) (gridGood 3 s)))) := by
  refine congrArg Host.Outcome.next ((gridMessageTaken_forCall on found _).trans ?_)
  rw [if_pos (within_iff.mpr ⟨low, high⟩), refusalTaken]

theorem exec_callStatus (low : 1 ≤ code.toNat) (high : code.toNat ≤ 4) :
    exec (.callStatus n code) s = .next (settle (statusAnswer code.toNat c (gridGood 3 s))) := by
  refine congrArg Host.Outcome.next ((gridMessageTaken_forCall on found _).trans ?_)
  rw [if_pos (within_iff.mpr ⟨low, high⟩)]

end

/-! ### A frame taken leaves the PAU as it is, unless it ends a drain (R159, R163, R167) -/

theorem pau_foldl {α : Type} {f : State → α → State} (hf : ∀ t a, (f t a).pau = t.pau) (l : List α) :
    ∀ s, (l.foldl f s).pau = s.pau := by
  induction l with
  | nil => exact fun _ => rfl
  | cons a l ih => exact fun s => (ih (f s a)).trans (hf s a)

theorem inquireAll_pau (s : State) : (inquireAll s).pau = s.pau :=
  pau_foldl (fun t x => by simp [beginInquiry]) _ s

theorem settled_resumeHolds (s : State) : Settled s (resumeHolds s) := by
  refine settled_foldl _ (fun t p => ?_) _ s
  split
  · exact (settled_sendHold p t).trans (settled_setHold p _ _)
  · exact settled_setHold p _ t

theorem settle_pau_of_active (on : (settle s).active = true) : (settle s).pau = s.pau := by
  rcases settle_cases s with frame | ⟨-, stopped⟩
  · exact frame.pau
  · rw [State.active, stopped] at on
    exact absurd on (by decide)

theorem gridLinkUp_pau (on : (gridLinkUp s).active = true) : (gridLinkUp s).pau = s.pau := by
  simp only [gridLinkUp] at on ⊢
  split at on
  next up =>
    rw [if_pos up, settle_pau_of_active on, (settled_resumeHolds _).pau, inquireAll_pau, raise_pau]
    rfl
  next down =>
    rw [if_neg down, raise_pau]
    rfl

theorem gridGood_pau {payload : Nat} (on : (gridGood payload s).active = true) : (gridGood payload s).pau = s.pau := by
  simp only [gridGood] at on ⊢
  split at on
  next up => rw [if_pos up]; rfl
  next down => rw [if_neg down, gridLinkUp_pau on]; rfl

theorem gridGood_live {payload : Nat} (on : (gridGood payload s).active = true) : (gridGood payload s).live = s.live := by
  rw [State.live, gridGood_pau on, State.live]

/-! ### Refusals (R83, R84) -/

theorem busyRefusal_again (below : c.retries < s.live.retryLimit) :
    busyRefusal c s = cancelIfDue c.number (startGap c s) := if_pos below

section
variable (reached : s.live.retryLimit ≤ c.retries)
include reached

theorem busyRefusal_givesUp (gives : s.live.giveUp = true) :
    busyRefusal c s = report (c.report .callRetryExhausted) (failCall c s) := by
  rw [busyRefusal, if_neg (Nat.not_lt.mpr reached), if_pos gives]

theorem busyRefusal_persists (persists : s.live.giveUp = false) : busyRefusal c s = cancelIfDue c.number
    (if c.exhausted then startGap { c with exhausted := true } s
      else report (c.report .callRetryExhausted) (startGap { c with exhausted := true } s)) := by
  rw [busyRefusal, if_neg (Nat.not_lt.mpr reached), if_neg (Bool.eq_false_iff.mp persists)]

end

/-! ### Whether a cancel is under way (R89) -/

theorem Call.inCancel_iff :
    c.inCancel = true ↔ c.state = .cancelling ∨ (c.state = .inquiring ∧ c.cancel ≠ none) := by
  simp [Call.inCancel, Option.isSome_iff_ne_none]

theorem Call.inCancel_settled (settled : c.state ≠ .cancelling) (other : c.state ≠ .inquiring ∨ c.cancel = none) :
    c.inCancel = false := by
  rw [← Bool.not_eq_true, Call.inCancel_iff]
  rintro (cancelling | ⟨inquiring, due⟩)
  · exact settled cancelling
  · exact other.elim (fun differs => differs inquiring) due

/-- A call whose state says that no cancel is under way. -/
theorem Call.inCancel_of_state
    (state : c.state = .called ∨ c.state = .accepted ∨ c.state = .dispatched ∨ c.state = .uncertain) :
    c.inCancel = false := by
  refine Call.inCancel_settled ?_ (.inl ?_) <;> rcases state with h | h | h | h <;> simp [h]

theorem Call.inCancel_of_inquiry (inquiring : c.state = .inquiring) (free : c.cancel = none) : c.inCancel = false :=
  Call.inCancel_settled (by simp [inquiring]) (.inr free)

/-! ### The answers, row by row of Table 5-2 -/

theorem refuseAnswer_cancel {reason : Nat} (cancel : c.inCancel = true) : refuseAnswer reason c s = confirmCancel c s :=
  if_pos cancel

theorem refuseAnswer_waiting {reason : Nat} (state : c.state = .called ∨ c.state = .accepted) :
    refuseAnswer reason c s = if reason = 1 then busyRefusal c s else failCall c s := by
  have free := Call.inCancel_of_state (state.imp_right .inl)
  rw [refuseAnswer, if_neg (Bool.eq_false_iff.mp free), if_pos state, reasonBusy]

theorem refuseAnswer_other {reason : Nat}
    (state : c.state = .dispatched ∨ c.state = .uncertain ∨ (c.state = .inquiring ∧ c.cancel = none)) :
    refuseAnswer reason c s = s := by
  have elsewhere : ¬(c.state = .called ∨ c.state = .accepted) := by
    rcases state with h | h | ⟨h, -⟩ <;> simp [h]
  have free : c.inCancel = false := by
    rcases state with dispatched | uncertain | ⟨inquiring, free⟩
    · exact Call.inCancel_of_state (.inr (.inr (.inl dispatched)))
    · exact Call.inCancel_of_state (.inr (.inr (.inr uncertain)))
    · exact Call.inCancel_of_inquiry inquiring free
  rw [refuseAnswer, if_neg (Bool.eq_false_iff.mp free), if_neg elsewhere]

theorem dispatchedAnswer_cancel (cancel : c.inCancel = true) : dispatchedAnswer c s = cancelTooLate c s := if_pos cancel

theorem dispatchedAnswer_waiting (state : c.state = .called ∨ c.state = .accepted) :
    dispatchedAnswer c s = callDispatched c s := by
  have free := Call.inCancel_of_state (state.imp_right .inl)
  rw [dispatchedAnswer, if_neg (Bool.eq_false_iff.mp free)]
  rcases state with called | accepted
  · rw [called]
  · rw [accepted]

theorem dispatchedAnswer_inquiry (inquiring : c.state = .inquiring) (free : c.cancel = none) :
    dispatchedAnswer c s = seeDispatch c s := by
  rw [dispatchedAnswer, if_neg (Bool.eq_false_iff.mp (Call.inCancel_of_inquiry inquiring free)), inquiring]

theorem dispatchedAnswer_other (state : c.state = .dispatched ∨ c.state = .uncertain) : dispatchedAnswer c s = s := by
  have free := Call.inCancel_of_state (.inr (.inr state))
  rw [dispatchedAnswer, if_neg (Bool.eq_false_iff.mp free)]
  rcases state with dispatched | uncertain
  · rw [dispatched]
  · rw [uncertain]

theorem statusAnswer_cancel {status : Nat} (cancel : c.inCancel = true) : statusAnswer status c s =
    if status = 1 then cancelPending c s else if status = 2 then cancelTooLate c s else confirmCancel c s := if_pos cancel

theorem statusAnswer_inquiry {status : Nat} (inquiring : c.state = .inquiring) (free : c.cancel = none) :
    statusAnswer status c s = if status = 1 then inquiryFound false c s
      else if status = 2 then inquiryFound true c s else failCall c s := by
  rw [statusAnswer, if_neg (Bool.eq_false_iff.mp (Call.inCancel_of_inquiry inquiring free)), if_pos inquiring]
  rfl

theorem statusAnswer_other {status : Nat}
    (state : c.state = .called ∨ c.state = .accepted ∨ c.state = .dispatched ∨ c.state = .uncertain) :
    statusAnswer status c s = s := by
  have elsewhere : c.state ≠ .inquiring := by rcases state with h | h | h | h <;> simp [h]
  rw [statusAnswer, if_neg (Bool.eq_false_iff.mp (Call.inCancel_of_state state)), if_neg elsewhere]

theorem restartTransit_eq (l : Live) (c : Call) :
    restartTransit l c = { c with transit := some (c.transit.getD l.transitTimeout) } := by
  unfold restartTransit
  cases c.transit <;> rfl

/-- R87: an inquiry that finds the call returns it to waiting or shows that it was dispatched. -/
theorem inquiryFound_eq (dispatched : Bool) (c : Call) (s : State) : inquiryFound dispatched c s =
    if c.dispatchSeen || dispatched then
      seeDispatch (restartTransit s.live { c with state := .dispatched, timer := .none }) s
    else cancelIfDue c.number (putCall (restartTransit s.live { c with state := .accepted, timer := .none }) s) := rfl

/-! ### The inquiry and transit timers (R86, R87) -/

theorem inquiryExpiry_again (within : c.inquiries ≤ s.live.retryLimit) : inquiryExpiry c s = gridHand (.inquire c.number)
    (putCall { c with inquiries := held16 (c.inquiries + 1), timer := inquiryTimer } s) := if_pos within

theorem inquiryExpiry_lost (above : s.live.retryLimit < c.inquiries) : inquiryExpiry c s = loseCall c s :=
  if_neg (Nat.not_le.mpr above)

theorem transitExpiry_second (marked : c.transitExpired = true) : transitExpiry c s = loseCall c s := if_pos marked

section
variable (fresh : c.transitExpired = false)
include fresh

theorem transitExpiry_inquires (state : c.state = .called ∨ c.state = .accepted ∨ c.state = .dispatched) :
    transitExpiry c s = beginInquiry { c with transitExpired := true, transit := none } s := by
  rw [transitExpiry, if_neg (Bool.eq_false_iff.mp fresh)]
  rcases state with h | h | h <;> rw [h]

theorem transitExpiry_marks (state : c.state = .uncertain ∨ c.state = .inquiring ∨ c.state = .cancelling) :
    transitExpiry c s = putCall { c with transitExpired := true, transit := none } s := by
  rw [transitExpiry, if_neg (Bool.eq_false_iff.mp fresh)]
  rcases state with h | h | h <;> rw [h]

end

/-- Settles O30: the busy refusal by the retries left, the two timers, then the refusal by the state of its call. -/
theorem refusalsAndResends : Obligations.RefusalsAndResends := by
  intro s n m c reason gapped exhausted
  refine ⟨busyRefusal_again, busyRefusal_givesUp, busyRefusal_persists, fun found on => ⟨fun runs => ?_, fun idle => ?_,
    fun runs => ?_, fun idle => ?_⟩, fun on found => ?_⟩
  · exact congrArg Host.Outcome.next (callTimer_runs found on runs)
  · exact congrArg Host.Outcome.next (callTimer_stopped found idle)
  · exact congrArg Host.Outcome.next (callTimer_runs found on runs)
  · exact congrArg Host.Outcome.next (callTimer_stopped found idle)
  · intro t
    refine ⟨fun state => ⟨?_, ?_, ?_⟩, fun low high cancel => ?_, fun low high state => ?_⟩
    iterate 3
      rw [exec_callRefuse on found (by decide) (by decide), refuseAnswer_waiting state]
      rfl
    · rw [exec_callRefuse on found low high, refuseAnswer_cancel (Call.inCancel_iff.mpr cancel)]
    · rw [exec_callRefuse on found low high, refuseAnswer_other state]

/-- Settles O31: each timer by what its expiry does, running or not. -/
theorem inquiryAndTransitTimers : Obligations.InquiryAndTransitTimers := by
  intro s n c found on lost
  have inquiry : c.inquiryRuns = true → exec (.inquiryTimerExpiry n) s = .next (settle (inquiryExpiry c s)) :=
    fun runs => congrArg Host.Outcome.next (callTimer_runs found on runs)
  have transit : c.transit ≠ none → exec (.transitTimeout n) s = .next (settle (transitExpiry c s)) :=
    fun runs => congrArg Host.Outcome.next (callTimer_runs found on (Option.isSome_iff_ne_none.mpr runs))
  refine ⟨fun runs within => ?_, fun runs above => ?_, fun idle => ?_, fun runs marked => ?_, fun runs fresh state => ?_,
    fun runs fresh state => ?_, fun idle => ?_⟩
  · exact (inquiry runs).trans (by rw [inquiryExpiry_again within]; rfl)
  · exact (inquiry runs).trans (by rw [inquiryExpiry_lost above]; rfl)
  · exact congrArg Host.Outcome.next (callTimer_stopped found idle)
  · exact (transit runs).trans (by rw [transitExpiry_second marked]; rfl)
  · exact (transit runs).trans (by rw [transitExpiry_inquires fresh state]; rfl)
  · exact (transit runs).trans (by rw [transitExpiry_marks fresh state])
  · exact congrArg Host.Outcome.next (callTimer_stopped found (by simp [idle]))

/-- Settles O39: each answer by the state of its call. -/
theorem callAnswersMoveTheCall : Obligations.CallAnswersMoveTheCall := by
  intro s n c status inCancel waits
  have restart : ∀ {t : State} (x : Call), t.live = s.live → restartTransit t.live x = waits x := fun x live =>
    live.symm ▸ restartTransit_eq s.live x
  refine ⟨fun on found => ⟨?_, ?_, ?_, ?_, ?_, ?_⟩, fun on found => ⟨?_, ?_, ?_⟩⟩
  · intro called
    rw [exec_callAccept on found, acceptAnswer, if_pos called]
  · intro other
    rw [exec_callAccept on found, acceptAnswer, if_neg other]
  · intro state
    rw [exec_dispatched on found, dispatchedAnswer_waiting state, callDispatched]
  · intro inquiring free
    rw [exec_dispatched on found, dispatchedAnswer_inquiry inquiring free]
  · intro cancel
    rw [exec_dispatched on found, dispatchedAnswer_cancel (Call.inCancel_iff.mpr cancel), cancelTooLate,
      restart _ (gridGood_live on)]
  · intro state
    rw [exec_dispatched on found, dispatchedAnswer_other state]
  · intro inquiring free
    have answered := fun code low high => exec_callStatus (code := code) on found low high
    simp only [statusAnswer_inquiry inquiring free, inquiryFound_eq, restart _ (gridGood_live on)] at answered
    refine ⟨fun unseen => ?_, fun seen => ?_, ?_, ?_, ?_⟩
    · exact (answered 1 (by decide) (by decide)).trans (by rw [unseen]; rfl)
    · exact (answered 1 (by decide) (by decide)).trans (by rw [seen]; rfl)
    · exact (answered 2 (by decide) (by decide)).trans (by rw [Bool.or_true]; rfl)
    · exact answered 3 (by decide) (by decide)
    · exact answered 4 (by decide) (by decide)
  · intro cancel
    have answered := fun code low high => exec_callStatus (code := code) on found low high
    simp only [statusAnswer_cancel (Call.inCancel_iff.mpr cancel), cancelPending, cancelTooLate,
      restart _ (gridGood_live on)] at answered
    exact ⟨answered 1 (by decide) (by decide), answered 2 (by decide) (by decide), answered 3 (by decide) (by decide),
      answered 4 (by decide) (by decide)⟩
  · intro low high state
    rw [exec_callStatus on found low high, statusAnswer_other state]

end Sys2Proof.Machine
end

section
/-! SUPPORT. The grid's messages about a lane: ARRIVED (O40), DOCKED (O41) and DEPARTED (O42), one equation for each
outcome. -/

namespace Sys2Proof.Machine

variable {s : State} {p : Port} {tag : Word}

/-! ### A message that names a port present (R160, R161) -/

section
variable {port : Byte} (value : p.val = port.toNat)
include value

theorem portOfByte_eq : portOfByte port = some p := by
  have low : port.toNat < 10 := value ▸ p.isLt
  rw [portOfByte, dif_pos low]
  exact congrArg some (Fin.ext value.symm)

theorem portByte_eq : portByte p = port := by
  rw [portByte, value, BitVec.ofNat_toNat, BitVec.setWidth_eq]

variable (on : (gridGood 6 s).active = true) (present : (gridGood 6 s).st.portPresent p = true)
include on present

theorem gridMessageTaken_forPort (k : Port → State → State) :
    gridMessageTaken 6 (forPort port tag k) s = k p (gridGood 6 s) := by
  simp only [gridMessageTaken, on, if_true, forPort, portOfByte_eq value, present]

theorem exec_arrived : exec (.arrived port tag) s = .next (arrivedAt p tag (gridGood 6 s)) :=
  congrArg Host.Outcome.next (gridMessageTaken_forPort value on present _)

theorem exec_docked : exec (.docked port tag) s = .next (dockedAt p tag (gridGood 6 s)) :=
  congrArg Host.Outcome.next (gridMessageTaken_forPort value on present _)

theorem exec_departed : exec (.departed port tag) s = .next (departedAt p tag (gridGood 6 s)) :=
  congrArg Host.Outcome.next (gridMessageTaken_forPort value on present _)

end

/-! ### ARRIVED (O40) -/

/-- R94, R95: the context that the call's card takes into the lane. -/
def Call.arrivedCard (c : Call) (kind : EntryKind) (clock : Word) : CardCtx :=
  { c.card with
    timeArrived := some clock
    lateArrival := c.card.lateArrival || c.transitExpired
    adopted := c.card.adopted || kind == .adopted }

/-- R94, R95: the entry by which the call's card joins the lane. -/
def Call.arrivedEntry (c : Call) (kind : EntryKind) (clock : Word) : Entry :=
  { tag := c.card.tag, kind := kind, state := .queued, card := some (c.arrivedCard kind clock) }

/-- R94, R95, R135: the call ends, its card joins the lane, and a record that runs follows it. -/
def joinByCall (c : Call) (p : Port) (kind : EntryKind) (s : State) : State :=
  moveExposure c.card p (setLane p (s.lane p ++ [c.arrivedEntry kind s.clock]) (removeCall c.number s))

theorem arriveCard_seen {c : Call} (kind : EntryKind) (seen : c.dispatchSeen = true) :
    arriveCard c p kind s = joinByCall c p kind s := if_pos seen

theorem arriveCard_unseen {c : Call} (kind : EntryKind) (unseen : c.dispatchSeen = false) :
    arriveCard c p kind s = startExposure (c.arrivedCard kind s.clock) p (joinByCall c p kind s) :=
  if_neg (Bool.eq_false_iff.mp unseen)

theorem arrivedAt_repeated (repeated : (s.lane p).any (fun e => e.tag == tag) = true) :
    arrivedAt p tag s = gridProtocol (some (portByte p)) (some tag) s := if_pos repeated

section
variable (fresh : ¬(s.lane p).any (fun e => e.tag == tag) = true)
include fresh

theorem arrivedAt_overrun (full : s.st.laneDepth[p] ≤ (s.lane p).length) : arrivedAt p tag s =
    report { kind := .laneOverrun, bench := portBench p, port := some (portByte p), tag := some tag } s := by
  rw [arrivedAt, if_neg fresh, if_pos full, reportBench]

variable (room : (s.lane p).length < s.st.laneDepth[p])
include room

theorem arrivedAt_unmatched (unknown : s.arrivalCall p tag = none) :
    arrivedAt p tag s = settle (lookup tag (.arrival p) (setLane p (s.lane p ++ [stranger tag]) s)) := by
  rw [arrivedAt, if_neg fresh, if_neg (Nat.not_le.mpr room), unknown]
  rfl

variable {c : Call} (found : s.arrivalCall p tag = some c)
include found

theorem arrivedAt_own (own : c.port = p) : arrivedAt p tag s = settle (arriveCard c p .called s) := by
  simp only [arrivedAt, if_neg fresh, if_neg (Nat.not_le.mpr room), found, if_pos own]

section
variable (other : c.port ≠ p)
include other

theorem arrivedAt_adopted (called : s.mayUse c.card c.port = true) (here : s.mayUse c.card p = true) :
    arrivedAt p tag s = settle (arriveCard c p .adopted s) := by
  simp only [arrivedAt, if_neg fresh, if_neg (Nat.not_le.mpr room), found, if_neg other, called, here, Bool.and_self,
    if_true]

theorem arrivedAt_misrouted (barred : (s.mayUse c.card c.port && s.mayUse c.card p) = false) :
    arrivedAt p tag s = settle (misroute c p s) := by
  simp only [arrivedAt, if_neg fresh, if_neg (Nat.not_le.mpr room), found, if_neg other, barred, Bool.false_eq_true,
    if_false]

end

/-- R94, R95: the kind of an entry whose card may stand at the arrival port. -/
theorem arrivedAt_matched (allowed : c.port = p ∨ (s.mayUse c.card c.port = true ∧ s.mayUse c.card p = true)) :
    arrivedAt p tag s = settle (arriveCard c p (if c.port = p then .called else .adopted) s) := by
  by_cases own : c.port = p
  · rw [if_pos own, arrivedAt_own fresh room found own]
  · obtain ⟨called, here⟩ := allowed.resolve_left own
    rw [if_neg own, arrivedAt_adopted fresh room found own called here]

end

/-- Settles O40: the tests of R93, then the arrival port's own call, an adoption, a misroute, no call. -/
theorem arrivedMatchesItsCall : Obligations.ArrivedMatchesItsCall := by
  intro s port p tag t on value present repeated carried joined
  have byte : portByte p = port := portByte_eq value
  rw [exec_arrived value on present]
  refine ⟨fun same => ?_, fun fresh full => ?_, fun fresh room => ⟨fun c found own seen => ?_,
    fun c found other called here seen => ?_, fun c found unseen allowed => ?_, fun c found other barred => ?_,
    fun unknown => congrArg _ (arrivedAt_unmatched fresh room unknown)⟩⟩
  · rw [arrivedAt_repeated same, byte]
    rfl
  · rw [arrivedAt_overrun fresh full, byte]
  · rw [arrivedAt_own fresh room found own, arriveCard_seen _ seen]
    rfl
  · rw [arrivedAt_adopted fresh room found other called here, arriveCard_seen _ seen]
    rfl
  · refine ⟨_, _, rfl, rfl, ?_⟩
    rw [arrivedAt_matched fresh room found allowed, arriveCard_unseen _ unseen]
    rfl
  · rw [arrivedAt_misrouted fresh room found other barred, misroute, byte]
    rfl

/-! ### DOCKED (O41) -/

/-- A lane that is empty, or whose head is a STRANGER or STUCK without a card, has no head card. -/
theorem headCard_bare (bare : ∀ e, s.head p = some e → e.card = none) : s.headCard p = none := by
  unfold State.headCard
  split
  next e head => rw [bare e head, Option.map_none]
  next => rfl

section
variable {e : Entry} (head : s.head p = some e)
include head

theorem dockedAt_queued (same : e.tag = tag) (queued : e.state = .queued) : dockedAt p tag s = settle (dockHead p s) := by
  simp only [dockedAt, head, if_pos same, if_pos queued]

theorem dockedAt_later (same : e.tag = tag) (later : e.state ≠ .queued) : dockedAt p tag s = s := by
  simp only [dockedAt, head, if_pos same, if_neg later]

/-- R106: a STRANGER has no result; its release is requested without a mark. -/
theorem dockHead_stranger (stranger : e.card = none) : dockHead p s = { s with
    lnc := { s.lnc with lanes := s.lnc.lanes.set p ({ e with state := .ended } :: (s.lane p).tail) }
    mga := { s.mga with
      requests := s.mga.requests ++ [{ port := p, tag := e.tag, recalled := false, frozen := false }] } } := by
  have bare : s.headCard p = none := headCard_bare fun d found => Option.some.inj (head.symm.trans found) ▸ stranger
  simp only [dockHead, bare, endHead, head, stranger, requestRelease]
  rfl

end

theorem dockedAt_stray (stray : ∀ e, s.head p = some e → e.tag ≠ tag) :
    dockedAt p tag s = gridProtocol (some (portByte p)) (some tag) s := by
  unfold dockedAt
  split
  next e head => rw [if_neg (stray e head)]
  next => rfl

section
variable {e : Entry} {c : CardCtx} (head : s.headCard p = some (e, c))
include head

theorem dockHead_recalled (recalled : c.recalled = true) :
    dockHead p s = endWith p .exposureRecall .recalled true s := by
  simp only [dockHead, head, if_pos recalled]

theorem presentFirst_eq : presentFirst p s = settleEntry p (questionHead p (fun _ => true)
    (countBench c.bench (fun k => { k with presentations := k.presentations + 1 })
      (setHead p { e with
        card := some { c with portPresented := some p, timePresented := some s.clock }, state := .presenting } s))) := by
  simp only [presentFirst, head, setHeadCard]

variable (kept : c.recalled = false)
include kept

theorem dockHead_withdrawn (withdrawn : c.withdrawn = true) :
    dockHead p s = endWith p .withdrawn .withdrawn false s := by
  simp only [dockHead, head, kept, Bool.false_eq_true, if_false, if_pos withdrawn]

variable (wanted : c.withdrawn = false)
include wanted

/-- R98: with neither a recall nor a withdrawal the staffing of the owning benches decides. -/
theorem dockHead_by_staffing : dockHead p s =
    if s.allClosed c then endWith p .benchClosed .benchClosed false s
    else if c.benches.any s.staffed then presentFirst p s
    else setHead p { e with state := .waitingBench } s := by
  simp only [dockHead, head, kept, wanted, Bool.false_eq_true, if_false]

end

theorem allClosed_iff {c : CardCtx} : s.allClosed c = true ↔ ∀ b ∈ c.benches, (s.bench b).staffing = .closed := by
  simp [State.allClosed, State.closed]

theorem anyStaffed_iff {c : CardCtx} :
    c.benches.any s.staffed = true ↔ ∃ b ∈ c.benches, (s.bench b).staffing = .staffed := by
  simp [State.staffed]

/-- A card with an owning bench that is not CLOSED is not closed everywhere. -/
theorem not_allClosed {c : CardCtx} {b : Bench} (mem : b ∈ c.benches) (opened : (s.bench b).staffing ≠ .closed) :
    ¬s.allClosed c = true := fun closed => opened (allClosed_iff.mp closed b mem)

/-- Settles O41: the head QUEUED by the tests of R98 in their order, then the head past QUEUED and the tag that is not the
head's. -/
theorem dockedPresentsOrEndsTheHead : Obligations.DockedPresentsOrEndsTheHead := by
  intro s port p tag t on value present
  rw [exec_docked value on present]
  refine ⟨fun e head same queued => ?_, fun e head same later => congrArg _ (dockedAt_later head same later),
    fun stray => ?_⟩
  · rw [dockedAt_queued head same queued]
    refine ⟨fun stranger => ?_, fun c card => ?_⟩
    · rw [dockHead_stranger head stranger, same]
    have held := headCard_of head card
    refine ⟨fun recalled => ?_, fun kept withdrawn => ?_, fun kept wanted closed => ?_, fun kept wanted staffed => ?_,
      fun kept wanted onBreak unstaffed => ?_⟩
    · rw [dockHead_recalled held recalled]
    · rw [dockHead_withdrawn held kept withdrawn]
    · rw [dockHead_by_staffing held kept wanted, if_pos (allClosed_iff.mpr closed)]
    · obtain ⟨b, mem, works⟩ := staffed
      rw [dockHead_by_staffing held kept wanted, if_neg (not_allClosed mem (by simp [works])),
        if_pos (anyStaffed_iff.mpr ⟨b, mem, works⟩), presentFirst_eq held]
    · obtain ⟨b, mem, rests⟩ := onBreak
      have idle : ¬c.benches.any t.staffed = true := fun any =>
        (anyStaffed_iff.mp any).elim fun a ⟨owns, works⟩ => unstaffed a owns works
      rw [dockHead_by_staffing held kept wanted, if_neg (not_allClosed mem (by simp [rests])), if_neg idle]
  · rw [dockedAt_stray stray, portByte_eq value]
    rfl

/-! ### DEPARTED (O42) -/

section
variable {e : Entry} (head : s.head p = some e) (same : e.tag = tag)
include head same

theorem departedAt_releasing (state : e.state = .releasing) :
    departedAt p tag s = settle (endTenure (.port p) (departHead p e s)) := by
  simp only [departedAt, head, same, ne_eq, not_true, if_false, state]

theorem departedAt_ended (state : e.state = .ended) : departedAt p tag s =
    settle (gridProtocol (some (portByte p)) (some tag) (withdrawRequest p (departHead p e s))) := by
  simp only [departedAt, head, same, ne_eq, not_true, if_false, state]

theorem departedAt_stuck (state : e.state = .stuck) : departedAt p tag s = settle (departHead p e s) := by
  simp only [departedAt, head, same, ne_eq, not_true, if_false, state]

theorem departedAt_unended (state : e.state = .queued ∨ e.state = .presenting ∨ e.state = .waitingBench) :
    departedAt p tag s = gridProtocol (some (portByte p)) (some tag) s := by
  rcases state with state | state | state <;>
    simp only [departedAt, head, same, ne_eq, not_true, if_false, state]

end

theorem departedAt_stray (stray : ∀ e, s.head p = some e → e.tag ≠ tag) :
    departedAt p tag s = gridProtocol (some (portByte p)) (some tag) s := by
  unfold departedAt
  split
  next => rfl
  next e head => rw [if_pos (stray e head)]

/-- Settles O42: the head by its state, then the tag that is not the head's. -/
theorem departedEndsTheHead : Obligations.DepartedEndsTheHead := by
  intro s port p tag t on value present gone protocol
  have left : ∀ e, departHead p e t = gone e := fun _ => rfl
  have told : ∀ u, gridProtocol (some (portByte p)) (some tag) u = report protocol u := fun u => by
    rw [portByte_eq value]
    rfl
  rw [exec_departed value on present]
  refine ⟨fun e head same releasing => ?_, fun e head same stuck => ?_, fun e head same ended => ?_,
    fun e head same unended => ?_, fun stray => ?_⟩
  · rw [departedAt_releasing head same releasing, left]
  · rw [departedAt_stuck head same stuck, left]
  · rw [departedAt_ended head same ended, left, told]
  · rw [departedAt_unended head same unended, told]
  · rw [departedAt_stray stray, told]

end Sys2Proof.Machine
end

section
/-! SUPPORT. The panel messages about a lane head: PICK (O50), SHORT and TOTE_DONE (O51). -/

namespace Sys2Proof.Machine

variable {s : State} {b : Bench} {port : Byte} {p : Port}

/-! ### The port that a message names (R101) -/

theorem portOfByte_above (above : 10 ≤ port.toNat) : portOfByte port = none :=
  dif_neg (Nat.not_lt.mpr above)

theorem reached_eq (value : p.val = port.toNat) :
    s.reached b port = if s.st.portPresent p = true ∧ p ∈ reachedPorts b then some p else none := by
  simp [State.reached, portOfByte_eq value]

/-! ### The lines at a position (R101, R102) -/

section
variable {q : PutPos} {l : Line}

theorem Line.openAt_iff : l.openAt q = true ↔ l.result = none ∧ l.pos = some q := by
  simp [Line.openAt, Line.unresolved]

theorem lateLine_iff {e : Entry} {c : CardCtx} : lateLine e c q = true ↔
    (e.state = .ended ∨ e.state = .releasing) ∧ ∃ l ∈ c.lines, l.pos = some q ∧ l.result = some .recalled := by
  simp [lateLine]

theorem Line.pick_fewer {qty : Nat} (fewer : qty < l.remaining) :
    l.pick qty = { l with picked := l.picked + qty, remaining := l.remaining - qty } := by
  have left : l.remaining - qty ≠ 0 := Nat.sub_ne_zero_of_lt fewer
  simp only [Line.pick, if_neg left, Nat.min_eq_left (Nat.le_of_lt fewer)]

theorem Line.pick_all {qty : Nat} (all : l.remaining = qty) : l.pick qty = { l with
    picked := l.picked + qty, remaining := l.remaining - qty, result := some .complete, lit := false } := by
  have left : l.remaining - qty = 0 := Nat.sub_eq_zero_of_le (Nat.le_of_eq all)
  simp only [Line.pick, if_pos left, Nat.min_eq_left (Nat.le_of_eq all.symm)]

end

/-! ### PICK (O50) -/

theorem exec_pick_taken {q : Byte} {qty : Byte} {i : Fin 16} (value : q.toNat = i.val)
    (taken : s.panelTaken { bench := b, ty := .pick, port := port, p := q, inRange := decide (q.toNat < 16) && qty != 0 }) :
    exec (.pick b port q qty) s = .next (pickAt b port qty.toNat (putPos b i)
      (panelState { bench := b, ty := .pick, port := port, p := q, inRange := decide (q.toNat < 16) && qty != 0 } s)) := by
  refine congrArg Host.Outcome.next ?_
  rw [positionInRange_eq]
  exact (takePanel_taken _ taken).trans (forPosition_eq b _ _ value)

section
variable {q : PutPos} {qty : Nat}

/-- R101 test 1, and a port whose head has no card. -/
theorem pickAt_without_card (bare : (portOfByte port).bind s.headCard = none) :
    pickAt b port qty q s = answer b .notPresenting s := by
  simp only [pickAt, bare]

section
variable {e : Entry} {c : CardCtx} (value : p.val = port.toNat) (head : s.headCard p = some (e, c))
include value head

/-- R101 tests 2 and 3, at a head with a card. -/
theorem pickAt_eq : pickAt b port qty q s =
    if lateLine e c q = true then answer b .late s
    else if (s.st.portPresent p = true ∧ p ∈ reachedPorts b) ∧ e.state = .presenting then
      pickPresenting b p e c q qty s
    else answer b .notPresenting s := by
  simp only [pickAt, portOfByte_eq value, Option.bind_some, head, reached_eq value]
  by_cases reaches : s.st.portPresent p = true ∧ p ∈ reachedPorts b
  · simp only [reaches, and_self, if_true, true_and]
  · simp only [reaches, false_and, if_false]

theorem pickAt_presenting (present : s.st.portPresent p = true) (mem : p ∈ reachedPorts b)
    (presenting : e.state = .presenting) : pickAt b port qty q s = pickPresenting b p e c q qty s := by
  have timely : ¬lateLine e c q = true := fun late => by simpa [presenting] using (lateLine_iff.mp late).1
  rw [pickAt_eq value head, if_neg timely, if_pos ⟨⟨present, mem⟩, presenting⟩]

end

section
variable {e : Entry} {c : CardCtx}

theorem pickPresenting_wrongPut (closed : ∀ l ∈ c.lines, ¬(l.result = none ∧ l.pos = some q)) :
    pickPresenting b p e c q qty s = answer b .wrongPut s := by
  have missing : c.lines.find? (Line.openAt q) = none :=
    List.find?_eq_none.mpr fun l mem opened => closed l mem (Line.openAt_iff.mp opened)
  simp only [pickPresenting, missing]

variable {l : Line} (found : c.lines.find? (Line.openAt q) = some l)
include found

theorem pickPresenting_over (above : l.remaining < qty) : pickPresenting b p e c q qty s = answer b .over s := by
  simp only [pickPresenting, found, if_pos above]

theorem pickPresenting_accepted (enough : qty ≤ l.remaining) :
    pickPresenting b p e c q qty s = settle (answer b .accept (acceptPick p e c q l qty s)) := by
  simp only [pickPresenting, found, if_neg (Nat.not_lt.mpr enough)]

end

/-- R102: a line with units left is shown again with what remains. -/
theorem pickEffects_fewer {l : Line} (unresolved : l.result = none) (fewer : qty < l.remaining) : pickEffects p l qty s =
    showLine p { l with picked := l.picked + qty, remaining := l.remaining - qty } (reportUnits l.order qty s) := by
  simp [pickEffects, Line.pick_fewer fewer, Line.unresolved, unresolved]

/-- R102: a line with none left is reported, its light put out, and the entry settles. -/
theorem pickEffects_all {l : Line} (all : l.remaining = qty) : pickEffects p l qty s =
    settleEntry p (reportLine l.order (unshowLine p l (reportUnits l.order qty s))) := by
  simp [pickEffects, Line.pick_all all, Line.unresolved]

end

/-- Settles O50: the tests of R101 in their order, then the accepted pick by what remains. -/
theorem pickMovesUnitsOrIsRefused : Obligations.PickMovesUnitsOrIsRefused := by
  intro s b port p qty i value m t q taken
  rw [exec_pick_taken value taken]
  refine ⟨fun bare => congrArg _ (pickAt_without_card ?_), fun pt e c named head card => ?_⟩
  · rcases bare with above | ⟨pt, named, bare⟩
    · rw [portOfByte_above above, Option.bind_none]
    · rw [portOfByte_eq named, Option.bind_some, headCard_bare bare]
  have held := headCard_of head card
  refine ⟨fun late => ?_, fun timely barred => ?_, fun ⟨present, mem⟩ presenting => ?_⟩
  · rw [pickAt_eq named held, if_pos (lateLine_iff.mpr late)]
  · rw [pickAt_eq named held, if_neg (mt lateLine_iff.mp timely), if_neg barred]
  rw [pickAt_presenting named held present mem presenting]
  refine ⟨fun closed => congrArg _ (pickPresenting_wrongPut closed), fun l found => ?_⟩
  obtain ⟨unresolved, -⟩ := Line.openAt_iff.mp (List.find?_some found)
  refine ⟨fun above => congrArg _ (pickPresenting_over found above), fun fewer => ⟨Line.pick_fewer fewer, ?_⟩,
    fun all => ⟨Line.pick_all all, ?_⟩⟩
  · rw [pickPresenting_accepted found (Nat.le_of_lt fewer), acceptPick, pickEffects_fewer unresolved fewer]
    rfl
  · rw [pickPresenting_accepted found (Nat.le_of_eq all.symm), acceptPick, pickEffects_all all]
    rfl

/-! ### SHORT and TOTE_DONE (O51) -/

theorem exec_short_taken
    (taken : s.panelTaken { bench := b, ty := .short, port := port, p := 0xFF, inRange := true }) :
    exec (.short b port) s = .next (endBenchLines b .short (toldShort b) port
      (panelState { bench := b, ty := .short, port := port, p := 0xFF, inRange := true } s)) := by
  have ran := takePanel_taken (endBenchLines b .short (toldShort b) port) taken
  exact congrArg Host.Outcome.next ran

theorem exec_toteDone_taken
    (taken : s.panelTaken { bench := b, ty := .toteDone, port := port, p := 0xFF, inRange := true }) :
    exec (.toteDone b port) s = .next (endBenchLines b .cutByPicker (toldCut b) port
      (panelState { bench := b, ty := .toteDone, port := port, p := 0xFF, inRange := true } s)) := by
  have ran := takePanel_taken (endBenchLines b .cutByPicker (toldCut b) port) taken
  exact congrArg Host.Outcome.next ran

/-- The unresolved lines of a bench, by their result and position. -/
theorem openLines_ofBench (b : Bench) (c : CardCtx) :
    c.openLines.filter (Line.ofBench b) = c.lines.filter (fun l => l.result.isNone && l.bench == some b) := by
  rw [CardCtx.openLines, List.filter_filter]
  exact List.filter_congr fun l _ => Bool.and_comm _ _

section
variable {lr : LineResult} {told : Port → CardCtx → Nat → State → State} {c : CardCtx}

theorem endBenchLines_absent (absent : s.presentingHead b port = none) :
    endBenchLines b lr told port s = answer b .notPresenting s := by
  simp only [endBenchLines, absent]

variable (presenting : s.presentingHead b port = some (p, c))
include presenting

theorem endBenchLines_none (idle : c.lines.filter (fun l => l.result.isNone && l.bench == some b) = []) :
    endBenchLines b lr told port s = answer b .accept s := by
  simp only [endBenchLines, presenting, openLines_ofBench, idle, List.length_nil, if_true]

theorem endBenchLines_some (lines : c.lines.filter (fun l => l.result.isNone && l.bench == some b) ≠ []) :
    endBenchLines b lr told port s = settle (answer b .accept (settleEntry p
      (told p c (c.lines.filter (fun l => l.result.isNone && l.bench == some b)).length
        (resolveHead p (Line.ofBench b) lr s)))) := by
  simp only [endBenchLines, presenting, openLines_ofBench, if_neg (mt List.length_eq_zero_iff.mp lines)]

end

/-- Settles O51: for each of the two messages no head that presents, no line of the bench, lines of the bench. -/
theorem shortAndToteDoneEndTheBenchLines : Obligations.ShortAndToteDoneEndTheBenchLines := by
  intro s b port pt c short done mine
  refine ⟨fun taken => ?_, fun taken => ?_⟩
  · rw [exec_short_taken taken]
    exact ⟨fun absent => congrArg _ (endBenchLines_absent absent),
      fun presenting idle => congrArg _ (endBenchLines_none presenting idle),
      fun presenting lines => congrArg _ (endBenchLines_some presenting lines)⟩
  · rw [exec_toteDone_taken taken]
    exact ⟨fun absent => congrArg _ (endBenchLines_absent absent),
      fun presenting idle => congrArg _ (endBenchLines_none presenting idle),
      fun presenting lines => congrArg _ (endBenchLines_some presenting lines)⟩

end Sys2Proof.Machine
end

section
/-! SUPPORT. The return merge: its timers (O32), the messages of recirculation and return holds (O43), and what a grant does to
the last port granted and the port-grant count (O53). -/

namespace Sys2Proof.Machine

variable {s : State} {r : Requester} {p : Port}

/-! ### The tenure timer (R149) -/

section
variable {left : Nat} (on : s.active = true)
include on

theorem exec_tenureTimeout_timed (tenure : s.mga.merge = .tenure r (some left)) : exec .tenureTimeout s = .next (settle
    (count (fun k => { k with tenureTimeouts := k.tenureTimeouts + 1 }) (timedOutHolder r (openMerge r s)))) := by
  refine congrArg Host.Outcome.next ?_
  simp only [tenure, on, if_true]

/-- R146: the gate stands at the target; whether it is granted there is left to settling. -/
theorem exec_gateSwingEnd_swinging {gone : Bool} (swinging : s.mga.merge = .swinging r left gone) :
    exec .gateSwingEnd s =
      .next (settle (if gone then openMerge r s else setMga { s.mga with merge := .swung r } s)) := by
  refine congrArg Host.Outcome.next ?_
  simp only [swinging, on, if_true]

end

theorem exec_tenureTimeout_untimed (untimed : ∀ r left, s.mga.merge ≠ .tenure r (some left)) :
    exec .tenureTimeout s = .next s := by
  refine congrArg Host.Outcome.next ?_
  split
  next r left tenure => exact absurd tenure (untimed r left)
  next => rfl

theorem exec_gateSwingEnd_still (still : ∀ r left gone, s.mga.merge ≠ .swinging r left gone) :
    exec .gateSwingEnd s = .next s := by
  refine congrArg Host.Outcome.next ?_
  split
  next r left gone swinging => exact absurd swinging (still r left gone)
  next => rfl

/-- R111, R149: the head of the port that held the tenure is STUCK, and its card is written so. -/
theorem timedOutHolder_port {e : Entry} (head : s.head p = some e) : timedOutHolder (.port p) s =
    report { kind := .tenureTimeout, bench := portBench p, port := some (portByte p),
             card := e.card.map (fun c => c.card), tag := some e.tag }
      (match e.card with
        | some c => returnCard { c with stuck := true } (setHead p { e with card := none, state := .stuck } s)
        | none => setHead p { e with card := none, state := .stuck } s) := by
  simp only [timedOutHolder]
  split
  next absent => exact absurd (absent.symm.trans head) nofun
  next entry same =>
    obtain rfl : entry = e := Option.some.inj (same.symm.trans head)
    rfl

/-! ### The return-hold timer (R150) -/

theorem exec_returnHoldEnd_runs (on : s.active = true) (runs : s.mga.holdTimer ≠ 0) :
    exec .returnHoldEnd s = .next (settle (setMga { s.mga with holdTimer := 0 } s)) :=
  congrArg Host.Outcome.next (if_pos (by simp [on, runs]))

theorem exec_returnHoldEnd_stopped (stopped : s.mga.holdTimer = 0) : exec .returnHoldEnd s = .next s :=
  congrArg Host.Outcome.next (if_neg (by simp [stopped]))

/-- Settles O32: each of the three timers, running and then stopped. -/
theorem mergeTimers : Obligations.MergeTimers := by
  intro s r left gone on parked opened counted
  have opens : openMerge r s = opened := rfl
  refine ⟨fun tenure recirc => ?_, fun p e tenure port head => ?_, fun swinging => ?_, exec_returnHoldEnd_runs on,
    exec_returnHoldEnd_stopped, fun untimed => ⟨?_, ?_⟩, fun swinging => ?_, fun tenure => ?_⟩
  · rw [exec_tenureTimeout_timed on tenure, opens, recirc]
    rfl
  · have stands : opened.head p = some e := head
    rw [exec_tenureTimeout_timed on tenure, opens, port]
    exact congrArg (fun t => Host.Outcome.next (settle (counted t))) (timedOutHolder_port stands)
  · rw [exec_gateSwingEnd_swinging on swinging, opens]
    rfl
  · refine exec_tenureTimeout_untimed fun _ _ tenure => ?_
    rcases untimed with state | state | state <;> simp [state] at tenure
  · refine exec_gateSwingEnd_still fun _ _ _ swinging => ?_
    rcases untimed with state | state | state <;> simp [state] at swinging
  · exact exec_tenureTimeout_untimed (by simp [swinging])
  · exact exec_gateSwingEnd_still (by simp [tenure])

/-! ### RECIRC_REQUEST, RECIRC_CLEAR and RETURN_HOLD (R141, R150) -/

theorem gridMessageTaken_active {payload : Nat} (on : (gridGood payload s).active = true) (k : State → State) :
    gridMessageTaken payload k s = k (gridGood payload s) := if_pos on

/-- R141, R148: the clear of the pass under way. -/
theorem recircCleared_holder (holds : s.mga.merge.holder = some .recirc) :
    recircCleared s = settle (openMerge .recirc s) := by
  rw [recircCleared, if_pos holds, endTenure, if_pos holds]

section
variable (free : s.mga.merge.holder ≠ some .recirc)
include free

/-- R141: the late clear of a pass that timed out. -/
theorem recircCleared_late (marked : s.mga.recircTimedOut = true) :
    recircCleared s = setMga { s.mga with recircTimedOut := false } s := by
  rw [recircCleared, if_neg free, if_pos marked]

variable (unmarked : s.mga.recircTimedOut = false)
include unmarked

/-- R141, R146: the grid no longer needs the merge. -/
theorem recircCleared_waiting (waits : s.mga.recircFlag = true) :
    recircCleared s = settle (withdrawTarget .recirc (setMga { s.mga with recircFlag := false } s)) := by
  rw [recircCleared, if_neg free, if_neg (Bool.eq_false_iff.mp unmarked), if_pos waits]

theorem recircCleared_stray (idle : s.mga.recircFlag = false) : recircCleared s = gridProtocol none none s := by
  rw [recircCleared, if_neg free, if_neg (Bool.eq_false_iff.mp unmarked), if_neg (Bool.eq_false_iff.mp idle)]

end

/-- Settles O43: the request, the clear by the first case of R141 that applies, the return hold by the setting. -/
theorem recirculationAndReturnHoldMessages : Obligations.RecirculationAndReturnHoldMessages := by
  intro s q
  refine ⟨fun on => ⟨?_, ?_⟩, fun on => ?_⟩
  · exact congrArg Host.Outcome.next (gridMessageTaken_active on _)
  · have cleared : exec .recircClear s = .next (recircCleared (gridGood 0 s)) :=
      congrArg Host.Outcome.next (gridMessageTaken_active on _)
    rw [cleared]
    exact ⟨fun holds => congrArg _ (recircCleared_holder holds),
      fun free marked => congrArg _ (recircCleared_late free marked),
      fun free unmarked waits => congrArg _ (recircCleared_waiting free unmarked waits),
      fun free unmarked idle => congrArg _ (recircCleared_stray free unmarked idle)⟩
  · have held : exec (.returnHold q) s = .next (returnHoldTaken q (gridGood 2 s)) :=
      congrArg Host.Outcome.next (gridMessageTaken_active on _)
    rw [held]
    exact ⟨fun reacts => congrArg _ (if_pos reacts), fun ignores => congrArg _ (if_neg (Bool.eq_false_iff.mp ignores))⟩

/-! ### Grants (R144, R147) -/

@[simp] theorem releaseHead_mga (p : Port) (s : State) : (releaseHead p s).mga = s.mga := by
  unfold releaseHead
  split
  · exact setHead_mga p _ s
  · rfl

theorem grant_port_mga {request : Request} (pending : s.mga.request p = some request) :
    (grant (.port p) s).mga = { s.mga with
      requests := s.mga.requests.filter (fun y => y.port != p)
      merge := .tenure (.port p) s.live.tenure
      lastPort := p
      portCount := min (s.mga.portCount + 1) 255 } := by
  simp only [grant, grantPort, pending, portCue_mga, gridHand_mga, releaseHead_mga, count_mga]
  rfl

theorem grant_recirc_mga (s : State) : (grant .recirc s).mga = { s.mga with
    recircFlag := false
    recircTimedOut := false
    merge := .tenure .recirc s.live.tenure
    portCount := 0 } := by
  simp only [grant, grantRecirc, gridHand_mga, count_mga]
  rfl

/-! ### Rotation and the choice (R143) -/

theorem rotation_length (p : Port) : (rotation p).length = 10 := by
  rw [rotation, List.length_map, List.length_range]

theorem rotation_getElem? (p : Port) (k : Fin 10) :
    (rotation p)[k.val]? = some ⟨(p.val + 1 + k.val) % 10, Nat.mod_lt _ (by decide)⟩ := by
  rw [rotation, List.getElem?_map, List.getElem?_range k.isLt, Option.map_some]

theorem request_of_marked {m : Mga} (marked : m.marked p = true) : (m.request p).isSome = true := by
  obtain ⟨request, pending, carries⟩ := List.any_eq_true.mp marked
  exact List.find?_isSome.mpr ⟨request, pending, (Bool.and_eq_true_iff.mp carries).1⟩

/-- R143: whichever step chooses a port, that port has a pending request. -/
theorem request_of_choose_port {m : Mga} {frozenPriority : Bool} {k : Nat}
    (chosen : m.choose frozenPriority k = some (.port p)) : (m.request p).isSome = true := by
  simp only [Mga.choose] at chosen
  split at chosen
  next q first =>
    obtain rfl : q = p := by simpa using chosen
    split at first
    · exact request_of_marked (List.find?_some first)
    · cases first
  next =>
    split at chosen
    · cases chosen
    · split at chosen
      next q first =>
        obtain rfl : q = p := by simpa using chosen
        exact List.find?_some (p := fun q => (m.request q).isSome) first
      next => split at chosen <;> cases chosen

/-- Settles O53: a grant by its grantee; what chooses, swings or parks writes neither value. -/
theorem mergeGrantsKeepTheirCounts : Obligations.MergeGrantsKeepTheirCounts := by
  intro s p r x k
  exact ⟨grant_port_mga, grant_recirc_mga s, rfl, rfl, rfl, rfl, rfl, rfl, rotation_length p,
    congrArg (Option.map Fin.val) (rotation_getElem? p k), fun _ _ => rfl, fun _ => request_of_choose_port⟩

end Sys2Proof.Machine
end

section
/-! SUPPORT. The Grid Link's own events: dispatch-hold timers (O33), frames sent and LINE_CHECK when idle on either kind of link
(O35), frames dropped (O36). -/

namespace Sys2Proof.Machine

variable {s : State} {p : Port} {b : Bench} {bytes : List Byte}

/-! ### Dispatch-hold timers (R165, R166) -/

@[simp] theorem gridHand_hold (m : GridMsg) (p : Port) (s : State) : (gridHand m s).hold p = s.hold p := by
  rw [State.hold, gridHand_holds, State.hold]

/-- R156: of the counters a message handed to the GLC can touch the grid frame errors alone. -/
@[simp] theorem gridHand_dispatchHolds (m : GridMsg) (s : State) :
    (gridHand m s).ntu.counters.dispatchHolds = s.ntu.counters.dispatchHolds := by
  simp only [gridHand]
  split
  · split
    · rfl
    · split <;> rfl
  · rfl

theorem sendHold_hold_self (p : Port) (s : State) : (sendHold p s).hold p = { s.hold p with
    holding := true
    refresh := some (s.live.holdRefresh * Config.ticksPerDs)
    expiry := some (s.live.holdQuantum * Config.ticksPerDs) } :=
  setHold_hold_self p _ _

theorem sendHold_hold_ne {q : Port} (other : p ≠ q) (s : State) : (sendHold p s).hold q = s.hold q :=
  (setHold_hold_ne other _ _).trans (gridHand_hold _ q s)

theorem sendHold_dispatchHolds (p : Port) (s : State) :
    (sendHold p s).ntu.counters.dispatchHolds = s.ntu.counters.dispatchHolds + 1 :=
  congrArg (· + 1) (gridHand_dispatchHolds _ s)

theorem sendHold_link (p : Port) (s : State) :
    (sendHold p s).glc.link = (gridHand (.dispatchHold p s.live.holdQuantum) s).glc.link := rfl

/-- Sending a hold stays within the Grid Link Controller and the counters. -/
theorem sendHold_frame (p : Port) (s : State) : { sendHold p s with glc := s.glc, ntu := s.ntu } = s := by
  obtain ⟨link, counters, handed, -⟩ := gridHand_changes (.dispatchHold p s.live.holdQuantum) s
  rw [sendHold, handed]
  rfl

theorem exec_dispatchHoldRefresh_sends (on : s.active = true) (up : s.glc.link.up = true)
    (runs : (s.hold p).refresh ≠ none) (wants : (s.hold p).wants = true) :
    exec (.dispatchHoldRefresh p) s = .next (sendHold p s) :=
  congrArg Host.Outcome.next (if_pos (by simp [on, up, Option.isSome_iff_ne_none.mpr runs, wants]))

theorem exec_dispatchHoldRefresh_idle
    (idle : s.active = false ∨ s.glc.link.up = false ∨ (s.hold p).refresh = none ∨ (s.hold p).wants = false) :
    exec (.dispatchHoldRefresh p) s = .next s :=
  congrArg Host.Outcome.next (if_neg (by rcases idle with h | h | h | h <;> simp [h]))

theorem exec_holdExpiry_lapses (on : s.active = true) (runs : (s.hold p).expiry ≠ none)
    (unwanted : (s.hold p).wants = false) :
    exec (.holdExpiry p) s = .next (setHold p PortHold.flowing s) := by
  refine congrArg Host.Outcome.next ((if_pos (by simp [on, Option.isSome_iff_ne_none.mpr runs, unwanted])).trans ?_)
  simp only [unwanted, PortHold.flowing]

theorem exec_holdExpiry_idle (idle : s.active = false ∨ (s.hold p).expiry = none ∨ (s.hold p).wants = true) :
    exec (.holdExpiry p) s = .next s :=
  congrArg Host.Outcome.next (if_neg (by rcases idle with h | h | h <;> simp [h]))

/-- Settles O33: each timer at its expiry, acting and then idle. -/
theorem dispatchHoldTimers : Obligations.DispatchHoldTimers := by
  intro s p
  refine ⟨fun on up runs wants => ?_, exec_holdExpiry_lapses, exec_dispatchHoldRefresh_idle, exec_holdExpiry_idle⟩
  refine ⟨sendHold p s, exec_dispatchHoldRefresh_sends on up runs wants, ?_, fun q other => ?_, sendHold_dispatchHolds p s,
    sendHold_link p s, sendHold_frame p s, (settled_sendHold p s).ntu⟩
  · simp only [sendHold_hold_self, wants, Config.ticksPerDs]
  · exact sendHold_hold_ne other.symm s

/-! ### One link sends (R156, R157, R171, R172) -/

section
variable {M : Type} {check m : M} {ms : List M} {l : Link M}

theorem Link.idleExpiry_free (free : l.sending = none) :
    l.idleExpiry check = { l with sending := some check, idle := 0 } := by
  rw [Link.idleExpiry, free]
  rfl

theorem Link.idleExpiry_busy (busy : l.sending ≠ none) : l.idleExpiry check = { l with lineCheckDue := true } := by
  obtain ⟨frame, sending⟩ := Option.ne_none_iff_exists'.mp busy
  rw [Link.idleExpiry, sending]

theorem Link.frameSent_oldest (waits : l.queue = m :: ms) :
    l.frameSent check = { l with queue := ms, sending := some m, idle := 0, lineCheckDue := false } := by
  rw [Link.frameSent, waits]

theorem Link.frameSent_check (empty : l.queue = []) (due : l.lineCheckDue = true) :
    l.frameSent check = { l with sending := some check, idle := 0, lineCheckDue := false } := by
  rw [Link.frameSent, empty]
  exact if_pos due

theorem Link.frameSent_quiet (empty : l.queue = []) (undue : l.lineCheckDue = false) :
    l.frameSent check = { l with sending := none } := by
  rw [Link.frameSent, empty]
  exact if_neg (Bool.eq_false_iff.mp undue)

theorem Link.enqueue_free (free : l.sending = none) : l.enqueue m = { l with sending := some m, idle := 0 } := by
  rw [Link.enqueue, free]
  rfl

theorem Link.enqueue_busy (busy : l.sending ≠ none) : l.enqueue m = { l with queue := l.queue ++ [m] } := by
  obtain ⟨frame, sending⟩ := Option.ne_none_iff_exists'.mp busy
  rw [Link.enqueue, sending]

end

/-! ### Frames sent on either kind of link -/

theorem exec_gridIdleLineCheck (s : State) :
    exec .gridIdleLineCheck s = .next (setGridLink (s.glc.link.idleExpiry .lineCheck) s) := rfl

theorem exec_benchIdleLineCheck (b : Bench) (s : State) :
    exec (.benchIdleLineCheck b) s = .next (setBenchLink b ((s.bench b).link.idleExpiry .lineCheck) s) := rfl

theorem exec_gridFrameSent_busy (busy : s.glc.link.sending ≠ none) :
    exec .gridFrameSent s = .next (setGridLink (s.glc.link.frameSent .lineCheck) s) :=
  congrArg Host.Outcome.next (if_pos (Option.isSome_iff_ne_none.mpr busy))

theorem exec_gridFrameSent_free (free : s.glc.link.sending = none) : exec .gridFrameSent s = .next s :=
  congrArg Host.Outcome.next (if_neg (by simp [free]))

theorem exec_benchFrameSent_busy (busy : (s.bench b).link.sending ≠ none) :
    exec (.benchFrameSent b) s = .next (setBenchLink b ((s.bench b).link.frameSent .lineCheck) s) :=
  congrArg Host.Outcome.next (if_pos (Option.isSome_iff_ne_none.mpr busy))

theorem exec_benchFrameSent_free (free : (s.bench b).link.sending = none) : exec (.benchFrameSent b) s = .next s :=
  congrArg Host.Outcome.next (if_neg (by simp [free]))

/-- Settles O35: the Grid Link's events, those of a Bench Link, then a message handed to a link. -/
theorem linkSendingOrder : Obligations.LinkSendingOrder := by
  intro s b g m gs ms gl bl grid panel
  refine ⟨fun free => ?_, fun busy => ?_, fun busy waits => ?_, fun busy empty due => ?_, fun busy empty undue => ?_,
    exec_gridFrameSent_free, fun free => ?_, fun busy => ?_, fun busy waits => ?_, fun busy empty due => ?_,
    fun busy empty undue => ?_, exec_benchFrameSent_free, Link.enqueue_free, Link.enqueue_busy⟩
  · rw [exec_gridIdleLineCheck, Link.idleExpiry_free free]; rfl
  · rw [exec_gridIdleLineCheck, Link.idleExpiry_busy busy]; rfl
  · rw [exec_gridFrameSent_busy busy, Link.frameSent_oldest waits]; rfl
  · rw [exec_gridFrameSent_busy busy, Link.frameSent_check empty due]; rfl
  · rw [exec_gridFrameSent_busy busy, Link.frameSent_quiet empty undue]; rfl
  · rw [exec_benchIdleLineCheck, Link.idleExpiry_free free]; rfl
  · rw [exec_benchIdleLineCheck, Link.idleExpiry_busy busy]; rfl
  · rw [exec_benchFrameSent_busy busy, Link.frameSent_oldest waits]; rfl
  · rw [exec_benchFrameSent_busy busy, Link.frameSent_check empty due]; rfl
  · rw [exec_benchFrameSent_busy busy, Link.frameSent_quiet empty undue]; rfl

/-! ### Frames dropped (R158, R171) -/

section
variable {M : Type} {l : Link M} {verdict : FrameVerdict}

theorem Link.stalls_iff : l.stalls bytes = true ↔ l.held <+: bytes := by simp [Link.stalls]

theorem Link.collects_iff : l.collects bytes = true ↔ bytes <+: l.held ∨ l.held <+: bytes := by
  simp [Link.collects]

theorem Link.not_stalled_iff : ¬(verdict = .incomplete ∧ l.stalls bytes = true) ↔
    verdict ≠ .incomplete ∨ ¬l.held <+: bytes := by
  rw [Link.stalls_iff, Classical.not_and_iff_not_or_not]

theorem Link.not_collected_iff : ¬(verdict = .dropped ∧ l.collects bytes = true) ↔
    verdict ≠ .dropped ∨ ¬(bytes <+: l.held ∨ l.held <+: bytes) := by
  rw [Link.collects_iff, Classical.not_and_iff_not_or_not]

end

/-- Settles O36: on each kind of link the gap timeout and the failing frame, dropped and then without effect. -/
theorem droppedFramesAreCounted : Obligations.DroppedFramesAreCounted := by
  intro s b bytes gh bh rest grid panel gv bv
  have gridDropped : .next (dropGridFrame bytes s) = grid := rfl
  have panelDropped : .next (dropBenchFrame b bytes s) = panel := rfl
  rw [← gridDropped, ← panelDropped]
  exact ⟨fun verdict agrees => congrArg _ (if_pos ⟨verdict, Link.stalls_iff.mpr agrees⟩),
    fun fails => congrArg _ (if_neg (Link.not_stalled_iff.mpr fails)),
    fun verdict agrees => congrArg _ (if_pos ⟨verdict, Link.collects_iff.mpr agrees⟩),
    fun fails => congrArg _ (if_neg (Link.not_collected_iff.mpr fails)),
    fun verdict agrees => congrArg _ (if_pos ⟨verdict, Link.stalls_iff.mpr agrees⟩),
    fun fails => congrArg _ (if_neg (Link.not_stalled_iff.mpr fails)),
    fun verdict agrees => congrArg _ (if_pos ⟨verdict, Link.collects_iff.mpr agrees⟩),
    fun fails => congrArg _ (if_neg (Link.not_collected_iff.mpr fails))⟩

end Sys2Proof.Machine
end

section
/-! SUPPORT. Messages from the grid: LINE_CHECK on either kind of link (O37), and messages discarded or reported (O38). -/

namespace Sys2Proof.Machine

variable {s : State} {payload : Nat} {b : Bench}

/-! ### A good frame (R158, R159, R171) -/

theorem setBenchLink_link (b : Bench) (l : Link BenchMsg) (s : State) : ((setBenchLink b l s).bench b).link = l := by
  rw [setBenchLink, setBench_bench_self]

theorem setBenchLink_setBenchLink (b : Bench) (l m : Link BenchMsg) (s : State) :
    setBenchLink b m (setBenchLink b l s) = setBenchLink b m s := by
  unfold setBenchLink
  rw [setBench_bench_self]
  simp [setBench]

theorem gridGood_up (up : s.glc.link.up = true) :
    gridGood payload s = setGridLink (s.glc.link.goodFrame payload) s := if_pos up

theorem gridGood_down (down : s.glc.link.up = false) :
    gridGood payload s = gridLinkUp (setGridLink (s.glc.link.goodFrame payload) s) :=
  if_neg (Bool.eq_false_iff.mp down)

theorem benchGood_up (up : (s.bench b).link.up = true) :
    benchGood b payload s = setBenchLink b ((s.bench b).link.goodFrame payload) s := if_pos up

theorem benchGood_down (down : (s.bench b).link.up = false) : benchGood b payload s =
    panelReset b (raise .benchLink (setBenchLink b { (s.bench b).link.goodFrame payload with up := true } s)) := by
  refine (if_neg (Bool.eq_false_iff.mp down)).trans ?_
  rw [setBenchLink_link, setBenchLink_setBenchLink]

/-! ### A link comes UP (R159, R163, R167, R178) -/

/-- The Grid Link UP and GRID_LINK raised, before the actions of R163 and R167. -/
def gridRaised (s : State) : State := raise .gridLink (setGridLink { s.glc.link with up := true } s)

theorem gridRaised_active (s : State) : (gridRaised s).active = s.active := by
  rw [State.active, gridRaised, raise_pau, setGridLink_pau, State.active]

theorem gridRaised_lnc (s : State) : (gridRaised s).lnc = s.lnc := raise_lnc _ _

theorem gridLinkUp_inactive (off : s.active = false) : gridLinkUp s = gridRaised s :=
  if_neg (Bool.eq_false_iff.mp ((gridRaised_active s).trans off))

theorem gridLinkUp_active (on : s.active = true) :
    gridLinkUp s = settle (resumeHolds (inquireAll (gridRaised s))) :=
  if_pos ((gridRaised_active s).trans on)

theorem panelReset_up (up : (s.bench b).link.up = true) : panelReset b s =
    setAwaited b none (benchHand b (.panelReset (s.bench b).staffing (s.bench b).picker) s) := if_pos up

theorem exec_gridLineCheck (s : State) : exec .gridLineCheck s = .next (gridGood 0 s) := rfl

theorem exec_benchLineCheck (b : Bench) (s : State) : exec (.benchLineCheck b) s = .next (benchGood b 0 s) := rfl

/-- Settles O37: the Grid Link UP, DOWN outside RUNNING and DRAINING, DOWN within them; the Bench Link UP and DOWN. -/
theorem lineChecksKeepLinksUp : Obligations.LineChecksKeepLinksUp := by
  intro s b behind gl bl up benchUp
  have gridFrame : s.glc.link.goodFrame 0 = gl := rfl
  have benchFrame : (s.bench b).link.goodFrame 0 = bl := rfl
  have raised : gridRaised (setGridLink gl s) = up := rfl
  have benchRaised : raise .benchLink (setBenchLink b { bl with up := true } s) = benchUp := rfl
  rw [exec_gridLineCheck, exec_benchLineCheck]
  refine ⟨fun isUp => ?_, fun isDown off => ?_, fun isDown on => ?_, fun isUp => ?_, fun isDown => ?_⟩
  · rw [gridGood_up isUp, gridFrame]
    rfl
  · rw [gridGood_down isDown, gridFrame, gridLinkUp_inactive (s := setGridLink gl s) off, raised]
  · have calls : up.lnc = s.lnc := raised ▸ gridRaised_lnc _
    rw [gridGood_down isDown, gridFrame, gridLinkUp_active (s := setGridLink gl s) on, raised, ← calls]
    rfl
  · rw [benchGood_up isUp, benchFrame]
    rfl
  · have stands : benchUp.bench b = { s.bench b with link := { bl with up := true } } := by
      rw [← benchRaised, State.bench, raise_blc]
      exact setBench_bench_self b _ s
    have linkUp : (benchUp.bench b).link.up = true := congrArg (fun c => c.link.up) stands
    rw [benchGood_down isDown, benchFrame, benchRaised, panelReset_up linkUp, stands]

/-! ### Messages discarded or reported (R160, R161) -/

theorem gridMessageTaken_inactive (off : (gridGood payload s).active = false) (k : State → State) :
    gridMessageTaken payload k s = gridGood payload s := if_neg (Bool.eq_false_iff.mp off)

section
variable {n : Half} {x port : Byte} {tag : Word} {c : Instr}

/-- The four messages that name a call are each taken through it. -/
theorem exec_callMessage (mem : c ∈ [Instr.callAccept n, .callRefuse n x, .dispatched n, .callStatus n x]) (s : State) :
    ∃ k, exec c s = .next (gridMessageTaken (gridPayload c) (forCall n k) s) := by
  simp only [List.mem_cons, List.not_mem_nil, or_false] at mem
  rcases mem with rfl | rfl | rfl | rfl <;> exact ⟨_, rfl⟩

/-- The three messages that name a port are each taken through it. -/
theorem exec_toteMessage (mem : c ∈ [Instr.arrived port tag, .docked port tag, .departed port tag]) (s : State) :
    ∃ k, exec c s = .next (gridMessageTaken (gridPayload c) (forPort port tag k) s) := by
  simp only [List.mem_cons, List.not_mem_nil, or_false] at mem
  rcases mem with rfl | rfl | rfl <;> exact ⟨_, rfl⟩

/-- The three messages about the merge. -/
theorem exec_mergeMessage {q : Half} (mem : c ∈ [Instr.recircRequest, .recircClear, .returnHold q]) (s : State) :
    ∃ k, exec c s = .next (gridMessageTaken (gridPayload c) k s) := by
  simp only [List.mem_cons, List.not_mem_nil, or_false] at mem
  rcases mem with rfl | rfl | rfl <;> exact ⟨_, rfl⟩

theorem forCall_unused (unused : s.findCall n.toNat = none) (k : Call → State → State) :
    forCall n k s = report { kind := .gridProtocol } s := by
  rw [forCall, unused]
  rfl

/-- A message whose code is bad is reported the same whether its call is in use or not. -/
theorem forCall_badCode (k : Call → State → State) (bad : ∀ c, k c s = gridProtocol none none s) :
    forCall n k s = report { kind := .gridProtocol } s := by
  unfold forCall
  split
  · rfl
  next c _ => exact bad c

theorem forPort_absent (absent : 10 ≤ port.toNat ∨ ∃ p : Port, p.val = port.toNat ∧ s.st.portPresent p = false)
    (k : Port → State → State) :
    forPort port tag k s = report { kind := .gridProtocol, port := some port, tag := some tag } s := by
  rcases absent with high | ⟨p, value, missing⟩
  · have unread : portOfByte port = none := dif_neg (Nat.not_lt.mpr high)
    rw [forPort, unread]
    rfl
  · rw [forPort, portOfByte_eq value]
    exact if_neg (Bool.eq_false_iff.mp missing)

end

theorem within_eq_false {n hi : Nat} (out : n = 0 ∨ hi + 1 ≤ n) : ¬within n 1 hi = true := by
  rw [within_iff]
  omega

/-- Settles O38: the discarded messages, then a call not in use, a port not present, a bad code. -/
theorem gridMessagesDiscardedOrReported : Obligations.GridMessagesDiscardedOrReported := by
  intro s n q x port tag calls totes taken
  refine ⟨fun c mem off => ?_, fun c mem on unused => ?_, fun c mem on absent => ?_, fun on => ⟨fun bad => ?_, fun bad => ?_⟩⟩
  · have message : ∃ k, exec c s = .next (gridMessageTaken (gridPayload c) k s) := by
      simp only [List.mem_append] at mem
      rcases mem with (mem | mem) | mem
      · exact (exec_callMessage mem s).elim fun k ran => ⟨_, ran⟩
      · exact (exec_toteMessage mem s).elim fun k ran => ⟨_, ran⟩
      · exact exec_mergeMessage mem s
    obtain ⟨k, ran⟩ := message
    rw [ran, gridMessageTaken_inactive off]
  · obtain ⟨k, ran⟩ := exec_callMessage mem s
    rw [ran, gridMessageTaken_active on, forCall_unused unused]
  · obtain ⟨k, ran⟩ := exec_toteMessage mem s
    rw [ran, gridMessageTaken_active on, forPort_absent absent]
  · refine congrArg Host.Outcome.next ((gridMessageTaken_active on _).trans (forCall_badCode _ fun c => ?_))
    exact if_neg (within_eq_false bad)
  · refine congrArg Host.Outcome.next ((gridMessageTaken_active on _).trans (forCall_badCode _ fun c => ?_))
    exact if_neg (within_eq_false bad)

end Sys2Proof.Machine
end

section
/-! SUPPORT. The Grid Link's fall (O34): what settling leaves while the link is DOWN with an empty queue. -/

namespace Sys2Proof.Machine

variable {s t u : State}

/-! ### What settling leaves while the Grid Link is DOWN (R142, R151, R162, R167) -/

/-- R167: FLOWING, both timers stopped. -/
def PortHold.lapsed (h : PortHold) : Prop := h.holding = false ∧ h.refresh = none ∧ h.expiry = none

/-- The link, calls and lanes, and the merge's state as they were; GRID_LINK and a lapsed hold stay. -/
structure GridFallKept (s t : State) : Prop where
  link : t.glc.link = s.glc.link
  lnc : t.lnc = s.lnc
  merge : t.mga.merge = s.mga.merge
  raised : s.ntu.events.getLsbD 8 = true → t.ntu.events.getLsbD 8 = true
  lapsed : ∀ p : Port, (s.hold p).lapsed → (t.hold p).lapsed

theorem GridFallKept.refl (s : State) : GridFallKept s s := ⟨rfl, rfl, rfl, id, fun _ => id⟩

theorem GridFallKept.trans (a : GridFallKept s t) (b : GridFallKept t u) : GridFallKept s u :=
  ⟨b.link.trans a.link, b.lnc.trans a.lnc, b.merge.trans a.merge, b.raised ∘ a.raised, fun p => b.lapsed p ∘ a.lapsed p⟩

/-- Operations outside these blocks, with the events as they stand. -/
theorem GridFallKept.of_eq (glc : t.glc = s.glc) (lnc : t.lnc = s.lnc) (merge : t.mga.merge = s.mga.merge)
    (events : t.ntu.events = s.ntu.events) : GridFallKept s t :=
  ⟨by rw [glc], lnc, merge, fun h => by rw [events, h], fun p h => by rwa [State.hold, glc]⟩

theorem GridFallKept.down (kept : GridFallKept s t) (down : s.glc.link.up = false) : t.glc.link.up = false := by
  rw [kept.link, down]

theorem GridFallKept.empty (kept : GridFallKept s t) (empty : s.glc.link.queue = []) : t.glc.link.queue = [] := by
  rw [kept.link, empty]

theorem gridFallKept_foldl {α : Type} {f : State → α → State}
    (kept : ∀ t a, t.glc.link.up = false → GridFallKept t (f t a)) (l : List α) :
    ∀ s, s.glc.link.up = false → GridFallKept s (l.foldl f s) := by
  induction l with
  | nil => exact fun s _ => .refl s
  | cons a l ih =>
    intro s down
    have first := kept s a down
    exact first.trans (ih (f s a) (first.down down))

theorem gridFallKept_raise (e : Event) (s : State) : GridFallKept s (raise e s) where
  link := by rw [raise_glc]
  lnc := raise_lnc e s
  merge := by rw [raise_mga]
  raised bit := by rw [raise_events, BitVec.getLsbD_or, bit, Bool.true_or]
  lapsed p h := by rwa [State.hold, raise_glc]

theorem BindingsOnly.gridFallKept (a : BindingsOnly s t) : GridFallKept s t := by
  unfold BindingsOnly at a
  exact .of_eq (by rw [a]) (by rw [a]) (by rw [a]) (by rw [a])

/-! ### Holds, calls and takes -/

/-- R167: while the link is DOWN a port's wanting is noted and nothing is sent. -/
theorem refreshHold_down (p : Port) (down : s.glc.link.up = false) :
    refreshHold p s = setWants p (s.wantsHold p) s := by
  simp [refreshHold, actOnWant, down]

theorem gridFallKept_setWants (p : Port) (w : Bool) (s : State) : GridFallKept s (setWants p w s) where
  link := rfl
  lnc := rfl
  merge := rfl
  raised := id
  lapsed q h := by
    by_cases same : p = q
    · subst same
      rwa [setWants, setHold_hold_self]
    · rwa [setWants, setHold_hold_ne same]

theorem gridFallKept_refreshHolds (down : s.glc.link.up = false) : GridFallKept s (refreshHolds s) :=
  gridFallKept_foldl (fun t p down => refreshHold_down p down ▸ gridFallKept_setWants p _ t) _ s down

theorem mergeStep_down (down : s.glc.link.up = false) : mergeStep s = s :=
  mergeStep_held s (by simp [State.grantsFlow, down])

theorem portRoom_down (p : Port) (down : s.glc.link.up = false) : s.portRoom p = false := by
  simp [State.portRoom, down]

theorem ownSet_down (c : CardCtx) (down : s.glc.link.up = false) : s.ownSet c = [] := by
  simp [State.ownSet, State.openOwn, portRoom_down _ down]

theorem ownChoice_down (b : Bench) (down : s.glc.link.up = false) : s.ownChoice b = none := by
  simp [State.ownChoice, ownSet_down _ down, State.fewest]

theorem sharedChoice_down (q : Fin 2) (down : s.glc.link.up = false) : s.sharedChoice q = none :=
  if_neg (Bool.eq_false_iff.mp (portRoom_down _ down))

/-- R74, R116: no port is open while the link is DOWN, so no call is made. -/
theorem selectCalls_down (down : s.glc.link.up = false) : selectCalls s = s := by
  refine callLoop_none (chooseOnce_none ?_) _
  refine List.eq_nil_iff_forall_not_mem.mpr fun x mem => ?_
  rcases mem_choices_iff.mp mem with ⟨b, chosen⟩ | ⟨q, chosen⟩
  · exact absurd ((ownChoice_down b down).symm.trans chosen) nofun
  · exact absurd ((sharedChoice_down q down).symm.trans chosen) nofun

theorem gridFallKept_beginTake (b : Bench) (s : State) : GridFallKept s (beginTake b s) := by
  unfold beginTake
  split
  · exact .of_eq rfl rfl rfl rfl
  · exact .refl s

theorem gridFallKept_beginTakes (down : s.glc.link.up = false) : GridFallKept s (beginTakes s) :=
  gridFallKept_foldl (fun t b _ => gridFallKept_beginTake b t) _ s down

/-! ### The end of a drain (R192) -/

theorem gridFallKept_writeOrder (j : Nat) (part : OrderPart) (state : Nat) (s : State) :
    GridFallKept s (writeOrder j part state s) := .of_eq rfl rfl rfl rfl

theorem gridFallKept_closeOrder (q : PutPos) (reason : CloseReason) (s : State) :
    GridFallKept s (closeOrder q reason s) := by
  simp only [closeOrder]
  have emptied : GridFallKept s (forgetOrderFlags q (setPosition q Position.empty s)) := .of_eq rfl rfl rfl rfl
  split
  next j _ => exact emptied.trans ((gridFallKept_writeOrder j _ _ _).trans (gridFallKept_raise .orderClosed _))
  · exact emptied

theorem gridFallKept_closeDrained (down : s.glc.link.up = false) : GridFallKept s (closeDrained s) := by
  refine gridFallKept_foldl (fun t q _ => ?_) _ s down
  split
  · exact gridFallKept_closeOrder q .drained t
  · exact .refl t

theorem gridFallKept_setRunState (r : RunState) (s : State) : GridFallKept s (setRunState r s) := by
  obtain ⟨n, w, written⟩ := writeStatus_changes { s with pau := { s.pau with runState := r } }
  refine .trans (t := writeStatus { s with pau := { s.pau with runState := r } }) ?_ (gridFallKept_raise .runState _)
  rw [written]
  exact .of_eq rfl rfl rfl rfl

theorem lapseHolds_lapsed (p : Port) (s : State) : ((lapseHolds s).hold p).lapsed := by
  simp [lapseHolds, State.hold, PortHold.lapsed]

theorem gridFallKept_lapseHolds (s : State) : GridFallKept s (lapseHolds s) where
  link := rfl
  lnc := rfl
  merge := rfl
  raised := id
  lapsed p _ := lapseHolds_lapsed p s

theorem gridFallKept_clearGridQueue (empty : s.glc.link.queue = []) : GridFallKept s (clearGridQueue s) where
  link := by rw [clearGridQueue, setGridLink_self, Link.clearQueue, ← empty]
  lnc := rfl
  merge := rfl
  raised := id
  lapsed _ := id

/-- R153: the merge, the takes and the lookups at the end of a drain. -/
theorem gridFallKept_idleBlocks (s : State) :
    GridFallKept s (setMga s.mga.drained (clearTakeMarks (emptyMisses s))) := .of_eq rfl rfl rfl rfl

theorem gridFallKept_endDrain (down : s.glc.link.up = false) (empty : s.glc.link.queue = []) :
    GridFallKept s (endDrain s) := by
  have reads : GridFallKept s (discardReads (abandonSweep s)) := .of_eq rfl rfl rfl rfl
  have bindings := reads.trans (bindings_cancelBindings _).gridFallKept
  have closed := bindings.trans (gridFallKept_closeDrained (bindings.down down))
  have panels := closed.trans (panelResets_only _).bindings.gridFallKept
  have lapsed := (panels.trans (gridFallKept_clearGridQueue (panels.empty empty))).trans (gridFallKept_lapseHolds _)
  exact (lapsed.trans (gridFallKept_idleBlocks _)).trans (gridFallKept_setRunState .stopped _)

theorem gridFallKept_drainTest (down : s.glc.link.up = false) (empty : s.glc.link.queue = []) :
    GridFallKept s (drainTest s) := by
  unfold drainTest
  split
  · exact gridFallKept_endDrain down empty
  · exact .refl s

theorem gridFallKept_settle (down : s.glc.link.up = false) (empty : s.glc.link.queue = []) :
    GridFallKept s (settle s) := by
  cases on : s.active with
  | false => exact (settle_inactive on).symm ▸ .refl s
  | true =>
    have holds := gridFallKept_refreshHolds down
    have stillDown : (refreshHolds s).glc.link.up = false := holds.down down
    rw [settle_active on, mergeStep_down stillDown, selectCalls_down stillDown]
    have takes := holds.trans (gridFallKept_beginTakes stillDown)
    exact takes.trans (gridFallKept_drainTest (takes.down down) (takes.empty empty))

/-! ### The fall (R159, R162, R167) -/

/-- The Grid Link DOWN with an empty queue and GRID_LINK raised, before the actions of R162 and R167. -/
def gridFallen (s : State) : State := raise .gridLink (setGridLink { s.glc.link with up := false, queue := [] } s)

theorem gridFallen_active (s : State) : (gridFallen s).active = s.active := by
  rw [State.active, gridFallen, raise_pau, setGridLink_pau, State.active]

theorem gridFallen_raised (s : State) : (gridFallen s).ntu.events.getLsbD 8 = true := by
  rw [gridFallen, raise_events, BitVec.getLsbD_or]
  exact Bool.or_true _

section
variable (up : s.glc.link.up = true)
include up

theorem exec_gridLinkDown_inactive (off : s.active = false) : exec .gridLinkDown s = .next (gridFallen s) :=
  congrArg Host.Outcome.next ((if_pos up).trans (if_neg (Bool.eq_false_iff.mp ((gridFallen_active s).trans off))))

theorem exec_gridLinkDown_active (on : s.active = true) :
    exec .gridLinkDown s = .next (settle (lapseHolds (doubtCalls (gridFallen s)))) :=
  congrArg Host.Outcome.next ((if_pos up).trans (if_pos ((gridFallen_active s).trans on)))

end

/-- Settles O34: the link DOWN already, UP outside RUNNING and DRAINING, UP within them. -/
theorem gridLinkDownPutsCallsInDoubt : Obligations.GridLinkDownPutsCallsInDoubt := by
  intro s
  refine ⟨fun down => congrArg Host.Outcome.next (if_neg (Bool.eq_false_iff.mp down)), exec_gridLinkDown_inactive,
    fun up on => ⟨_, exec_gridLinkDown_active up on, ?_⟩⟩
  have link : (gridFallen s).glc.link = { s.glc.link with up := false, queue := [] } := by rw [gridFallen, raise_glc]; rfl
  have lnc : (gridFallen s).lnc = s.lnc := raise_lnc _ _
  have mga : (gridFallen s).mga = s.mga := raise_mga _ _
  have kept : GridFallKept (lapseHolds (doubtCalls (gridFallen s))) (settle (lapseHolds (doubtCalls (gridFallen s)))) :=
    gridFallKept_settle (congrArg Link.up link) (congrArg Link.queue link)
  refine ⟨kept.link.trans link, kept.raised (gridFallen_raised s), ?_, fun p => kept.lapsed p (lapseHolds_lapsed p _), ?_,
    kept.merge.trans (congrArg Mga.merge mga)⟩
  · rw [kept.lnc, ← lnc]
    rfl
  · rw [kept.lnc, ← lnc]
    rfl

end Sys2Proof.Machine
end

section
/-! SUPPORT. The Bench Links and staffing: a link's fall (O44), panel messages refused (O45) and staffing messages (O46). -/

namespace Sys2Proof.Machine

variable {s : State} {b : Bench}

/-! ### A change of staffing (R176) -/

theorem lanes_headsOf (b : Bench) {f : Port → State → State} (hf : ∀ p t, LanesOnly t (f p t)) (s : State) :
    LanesOnly s (headsOf b f s) := lanes_foldl _ (fun t p => hf p t) _ s

@[simp] theorem cancelCall_blc (why : CancelReason) (c : Call) (s : State) : (cancelCall why c s).blc = s.blc := by
  simp [cancelCall, apply_ite State.blc]

@[simp] theorem cancelCalls_blc (why : CancelReason) (sel : Call → Bool) (s : State) : (cancelCalls why sel s).blc = s.blc :=
  List.foldlRecOn (motive := fun t => t.blc = s.blc) _ _ rfl (fun t kept c _ => (cancelCall_blc why c t).trans kept)

/-- R176: the lanes and the calls act on a change without touching a bench, but for what is handed to its link. -/
theorem staffingActs_bench (b : Bench) (new : Staffing) (s : State) (d : Bench) :
    (staffingActs b new s).bench d = { s.bench d with link := ((staffingActs b new s).bench d).link } := by
  unfold staffingActs
  split
  · rfl
  · cases new with
    | onBreak => exact (lanes_headsOf b (lanes_darkenHead b) s).bench d
    | staffed => exact (lanes_headsOf b (lanes_relightHead b) s).bench d
    | closed =>
      simp only [State.bench, cancelCalls_blc]
      exact (lanes_headsOf b (lanes_closeHead b) s).bench d

/-- R175, R176: of its own bench a change writes the staffing and the picker. -/
theorem changeStaffing_bench_self (b : Bench) (new : Staffing) (picker : Half) (s : State) :
    (changeStaffing b new picker s).bench b = { s.bench b with
      staffing := new, picker := picker, link := ((changeStaffing b new picker s).bench b).link } := by
  have acts := staffingActs_bench b new (setBench b { s.bench b with staffing := new, picker := picker } s) b
  rw [setBench_bench_self] at acts
  simpa only [changeStaffing, State.bench, raise_blc] using acts

theorem changeStaffing_staffing (b : Bench) (new : Staffing) (picker : Half) (s : State) :
    ((changeStaffing b new picker s).bench b).staffing = new := by rw [changeStaffing_bench_self]

theorem changeStaffing_picker (b : Bench) (new : Staffing) (picker : Half) (s : State) :
    ((changeStaffing b new picker s).bench b).picker = picker := by rw [changeStaffing_bench_self]

theorem changeStaffing_raised (b : Bench) (new : Staffing) (picker : Half) (s : State) :
    (changeStaffing b new picker s).ntu.events.getLsbD 6 = true := by
  rw [changeStaffing, raise_events, BitVec.getLsbD_or]
  exact Bool.or_true _

/-! ### The fall of a Bench Link (R172, R177) -/

/-- The Bench Link DOWN with an empty queue and no awaited message, and BENCH_LINK raised, before the staffing follows. -/
def benchFallen (b : Bench) (s : State) : State :=
  raise .benchLink (setBench b { s.bench b with
    link := { (s.bench b).link with up := false, queue := [] }, awaited := none } s)

theorem exec_benchLinkDown_down (down : (s.bench b).link.up = false) : exec (.benchLinkDown b) s = .next s :=
  congrArg Host.Outcome.next (if_neg (Bool.eq_false_iff.mp down))

section
variable (up : (s.bench b).link.up = true)
include up

theorem exec_benchLinkDown_closed (closed : (s.bench b).staffing = .closed) :
    exec (.benchLinkDown b) s = .next (benchFallen b s) :=
  congrArg Host.Outcome.next ((if_pos up).trans (if_pos closed))

theorem exec_benchLinkDown_open (opened : (s.bench b).staffing ≠ .closed) :
    exec (.benchLinkDown b) s = .next (settle (changeStaffing b .closed 0 (benchFallen b s))) :=
  congrArg Host.Outcome.next ((if_pos up).trans (if_neg opened))

end

/-- Settles O44: the link DOWN already, UP with its bench CLOSED, UP with its bench open. -/
theorem benchLinkDownClosesTheBench : Obligations.BenchLinkDownClosesTheBench := by
  intro s b down
  exact ⟨exec_benchLinkDown_down, exec_benchLinkDown_closed, fun up opened => ⟨exec_benchLinkDown_open up opened,
    changeStaffing_staffing b _ _ down, changeStaffing_picker b _ _ down, changeStaffing_raised b _ _ down⟩⟩

/-! ### The tests of a panel message in their order (R173) -/

/-- Each panel message goes through the tests of R173 with its own fields, whatever block takes it then. -/
theorem exec_of_panelFields {i : Instr} {m : PanelFields} (fields : panelFields i = some m) :
    ∃ k : State → State, ∀ s, exec i s = .next (takePanel m.bench m.ty m.port m.p m.inRange k s) := by
  cases i with
  | signOn | signOff | breakOff | back | short | toteDone =>
    obtain rfl := Option.some.inj fields
    exact ⟨_, fun _ => rfl⟩
  | place | remove | full | pick =>
    obtain rfl := Option.some.inj fields
    simp only [← positionInRange_eq]
    exact ⟨_, fun _ => rfl⟩
  | _ => nomatch fields

theorem Staffing.bars_iff {f : Staffing} {ty : PanelType} : f.bars ty = true ↔
    (ty = .place ∨ ty = .full) ∧ f = .closed ∨ (ty = .pick ∨ ty = .short ∨ ty = .toteDone) ∧ f ≠ .staffed := by
  cases ty <;> simp [Staffing.bars]

section
variable {ty : PanelType} {port p : Byte} {inRange : Bool}

/-- R61, R173: while a message is awaited only a REMOVE over the awaited PLACE of its position passes. -/
theorem takePanel_busy {w : Awaited} (k : State → State) (waits : ((ticketed b ty s).bench b).awaited = some w)
    (other : ¬(ty = .remove ∧ w.ty = .place ∧ w.p = p)) :
    takePanel b ty port p inRange k s =
      benchHand b (.answer ((ticketed b ty s).bench b).lastTicket ty port p .busy) (ticketed b ty s) := by
  simp only [ticketed] at waits
  simp only [takePanel, waits, ticketed]
  exact if_neg other

/-- With none awaited the first test that applies gives the answer. -/
theorem takePanel_refused {r : Reason} (k : State → State) (free : ((ticketed b ty s).bench b).awaited = none)
    (refuses : (ticketed b ty s).panelRefusal b ty inRange = some r) :
    takePanel b ty port p inRange k s =
      benchHand b (.answer ((ticketed b ty s).bench b).lastTicket ty port p r) (ticketed b ty s) := by
  simp only [ticketed] at free refuses
  simp only [takePanel, free, refuses, ticketed]

theorem panelRefusal_faulted (faulted : s.pau.runState = .faulted) : s.panelRefusal b ty inRange = some .busy :=
  if_pos faulted

section
variable (sound : s.pau.runState ≠ .faulted)
include sound

theorem panelRefusal_notEnabled (disabled : s.st.benchEnabled b = false) :
    s.panelRefusal b ty inRange = some .notEnabled := by
  simp [State.panelRefusal, sound, disabled]

variable (enabled : s.st.benchEnabled b = true)
include enabled

theorem panelRefusal_outOfRange (out : inRange = false) : s.panelRefusal b ty inRange = some .outOfRange := by
  simp [State.panelRefusal, sound, enabled, out]

theorem panelRefusal_notStaffed (within : inRange = true) (bars : (s.bench b).staffing.bars ty = true) :
    s.panelRefusal b ty inRange = some .notStaffed := by
  simp [State.panelRefusal, sound, enabled, within, bars]

end

end

/-- Settles O45: a message awaited already, then each test of R173 with none awaited. -/
theorem panelMessagesRefusedInOrder : Obligations.PanelMessagesRefusedInOrder := by
  intro s i m fields b t refused bars
  obtain ⟨k, runs⟩ := exec_of_panelFields fields
  have refuses : ∀ r, (t.bench b).awaited = none → t.panelRefusal b m.ty m.inRange = some r → exec i s = refused r :=
    fun r free test => (runs s).trans (congrArg Host.Outcome.next (takePanel_refused k free test))
  refine ⟨fun w waits other => (runs s).trans (congrArg Host.Outcome.next (takePanel_busy k waits other)),
    fun free => ⟨fun faulted => ?_, fun sound disabled => ?_, fun sound enabled out => ?_,
      fun sound enabled within barred => ?_⟩⟩
  · exact refuses .busy free (panelRefusal_faulted faulted)
  · exact refuses .notEnabled free (panelRefusal_notEnabled sound disabled)
  · exact refuses .outOfRange free (panelRefusal_outOfRange sound enabled out)
  · exact refuses .notStaffed free (panelRefusal_notStaffed sound enabled within (Staffing.bars_iff.mpr barred))

/-! ### Staffing messages (R175, R176) -/

section
variable {takes : Bool} {new : Staffing} {picker : Half}

theorem staffingMessage_takes (fits : takes = true) :
    staffingMessage b takes new picker s = settle (answer b .accept (changeStaffing b new picker s)) := if_pos fits

theorem staffingMessage_wrongState (unfit : takes = false) :
    staffingMessage b takes new picker s = answer b .wrongState s := if_neg (Bool.eq_false_iff.mp unfit)

end

/-- A message that passes every test of R173 goes to its block. -/
theorem exec_of_panelTaken {i : Instr} {m : PanelFields} {k : State → State} (taken : s.panelTaken m)
    (runs : exec i s = .next (takePanel m.bench m.ty m.port m.p m.inRange k s)) : exec i s = .next (k (panelState m s)) :=
  runs.trans (congrArg Host.Outcome.next (takePanel_taken k taken))

/-- Settles O46: each message in a state that takes it and in another, then what a change of staffing leaves. -/
theorem staffingMessagesChangeTheBench : Obligations.StaffingMessagesChangeTheBench := by
  intro s b picker on off brk back changed
  refine ⟨fun taken => ?_, fun taken => ?_, fun taken => ?_, fun taken => ?_, fun t new k =>
    ⟨changeStaffing_staffing b new k t, changeStaffing_picker b new k t, changeStaffing_raised b new k t⟩⟩
  · rw [exec_of_panelTaken taken rfl]
    exact ⟨fun closed => congrArg _ (staffingMessage_takes (beq_iff_eq.mpr closed)),
      fun opened => congrArg _ (staffingMessage_wrongState (beq_eq_false_iff_ne.mpr opened))⟩
  · rw [exec_of_panelTaken taken rfl]
    exact ⟨fun opened => congrArg _ (staffingMessage_takes (bne_iff_ne.mpr opened)),
      fun closed => congrArg _ (staffingMessage_wrongState (bne_eq_false_iff_eq.mpr closed))⟩
  · rw [exec_of_panelTaken taken rfl]
    exact ⟨fun staffed => congrArg _ (staffingMessage_takes (beq_iff_eq.mpr staffed)),
      fun other => congrArg _ (staffingMessage_wrongState (beq_eq_false_iff_ne.mpr other))⟩
  · rw [exec_of_panelTaken taken rfl]
    exact ⟨fun away => congrArg _ (staffingMessage_takes (beq_iff_eq.mpr away)),
      fun other => congrArg _ (staffingMessage_wrongState (beq_eq_false_iff_ne.mpr other))⟩

end Sys2Proof.Machine
end

section
/-! SUPPORT. The Notice Unit (O7, O12, O13, O14): writes to its registers, raised events, the fault capture, the dwell
buckets. -/

namespace Sys2Proof.Machine

variable {s : State}

/-! ### Events and their registers (R181 to R184) -/

theorem exec_events (w : Word) (s : State) : exec (.events w) s =
    .next (findSignals false { s with ntu := { s.ntu with events := s.ntu.events &&& ~~~(w.truncate 11) } }) := rfl

theorem exec_eventMask (w : Word) (s : State) : exec (.eventMask w) s =
    .next (findSignals s.live.suppressPrior { s with ntu := { s.ntu with mask := w.truncate 11 } }) := rfl

/-- Settles O7: either write is one register update, after which every condition is found. -/
theorem eventRegisterWrites : Obligations.EventRegisterWrites := by
  intro s w
  refine ⟨?_, ?_⟩
  · rw [exec_events, findSignals_eq]
  · rw [exec_eventMask, findSignals_eq]

theorem raise_eq (e : Event) (s : State) :
    raise e s = ({ s with ntu := { s.ntu with events := s.ntu.events ||| e.bits } } : State).signalsFound false :=
  findSignals_eq false _

/-- Settles O12: `raise` sets the bit and finds the conditions; the bit numbers are Table 12-1's. -/
theorem raisedEventSetsItsBitAndSendsItsNotice : Obligations.RaisedEventSetsItsBitAndSendsItsNotice :=
  fun e s => ⟨raise_eq e s, rfl⟩

/-! ### The fault capture (R185) -/

theorem armed_eq (s : State) : s.armed = !s.ntu.events.getLsbD 3 := rfl

theorem report_of_armed (r : Report) (clear : s.ntu.events.getLsbD 3 = false) : report r s = raise .exception { s with
    ntu := { s.ntu with capture := r.capture (Config.absentTag s.freeCount) s.clock }
    freeCount := s.freeCount + 1 } := if_pos (by rw [armed_eq, clear, Bool.not_false])

theorem report_of_disarmed (r : Report) (raised : s.ntu.events.getLsbD 3 = true) : report r s = { s with
    ntu := { s.ntu with capture := { s.ntu.capture with
      later := if s.ntu.capture.later = 0xFFFFFFFF then 0xFFFFFFFF else s.ntu.capture.later + 1 } } } :=
  if_neg (by rw [armed_eq, raised, Bool.not_true]; exact Bool.false_ne_true)

/-- EXCEPTION raised disarms the capture. -/
theorem raise_exception_disarms (s : State) : (raise .exception s).ntu.events.getLsbD 3 = true := by
  have bit : Event.exception.bits.getLsbD 3 = true := by decide
  rw [raise_events, BitVec.getLsbD_or, bit, Bool.or_true]

/-- Settles O13: the two branches of `report`, by the EXCEPTION bit; the free tag value is the model's own. -/
theorem faultCaptureTakesOneRecordAndCounts : Obligations.FaultCaptureTakesOneRecordAndCounts := by
  intro r s
  refine ⟨fun clear => ⟨Config.absentTag s.freeCount, report_of_armed r clear, ?_⟩, report_of_disarmed r⟩
  rw [report_of_armed r clear, raise_exception_disarms]

/-! ### The dwell buckets (R187) -/

/-- One more in one place of a list of words is one more in its sum, modulo 2^32. -/
theorem sum_set_add_one (l : List Word) (i : Nat) (inside : i < l.length) : (l.set i (l[i] + 1)).sum = l.sum + 1 := by
  induction l generalizing i with
  | nil => exact absurd inside (Nat.not_lt_zero i)
  | cons x l ih =>
    cases i with
    | zero =>
      show x + 1 + l.sum = x + l.sum + 1
      rw [BitVec.add_assoc, BitVec.add_comm 1, ← BitVec.add_assoc]
    | succ i =>
      have within : i < l.length := Nat.lt_of_succ_lt_succ inside
      show x + (l.set i (l[i] + 1)).sum = x + l.sum + 1
      rw [ih i within, BitVec.add_assoc]

/-- The rows of R187 meet without gap or overlap: on each branch of `dwellBucket` one row's bounds hold and no other's. -/
theorem dwellBucket_bounds (d : Nat) :
    (dwellBucket d = 0 ↔ d < 20) ∧ (dwellBucket d = 1 ↔ 20 ≤ d ∧ d < 40) ∧ (dwellBucket d = 2 ↔ 40 ≤ d ∧ d < 80)
    ∧ (dwellBucket d = 3 ↔ 80 ≤ d ∧ d < 160) ∧ (dwellBucket d = 4 ↔ 160 ≤ d ∧ d < 320)
    ∧ (dwellBucket d = 5 ↔ 320 ≤ d) := by
  unfold dwellBucket
  repeat' split
  all_goals simp; omega

theorem countDwell_eq (b : Bench) (d : Nat) (s : State) :
    countDwell b d s = { s with ntu := { s.ntu with counters := { s.ntu.counters with
      bench := s.ntu.counters.bench.set b { s.ntu.counters.bench[b] with
        dwell := s.ntu.counters.bench[b].dwell.set (dwellBucket d)
          (s.ntu.counters.bench[b].dwell[dwellBucket d] + 1) } } } } := rfl

theorem getElem_set_fin {α : Type} {n : Nat} (v : Vector α n) (i j : Fin n) (x : α) :
    (v.set i x)[j] = if j = i then x else v[j] := by
  simp only [Fin.getElem_fin, Vector.getElem_set, Fin.ext_iff, eq_comm]

/-- Settles O14: the bench's vector and its buckets change in one place each, and the rows of R187 are the bounds. -/
theorem dwellReportAddsOneToItsBucket : Obligations.DwellReportAddsOneToItsBucket := by
  intro b d s
  refine ⟨⟨_, countDwell_eq b d s, fun c other => ?_, ?_⟩, dwellBucket_bounds d⟩
  · rw [getElem_set_fin, if_neg other]
  · rw [getElem_set_fin, if_pos rfl]
    refine ⟨rfl, fun i => ?_, ?_⟩
    · rw [getElem_set_fin]
      split
      · next same => rw [same]
      · rfl
    · rw [Vector.toList_set]
      exact sum_set_add_one s.ntu.counters.bench[b].dwell.toList (dwellBucket d) (by simp)

end Sys2Proof.Machine
end

section
/-! SUPPORT. The passing of time: an idle step (O2) and a second of the floor clock (O28). -/

namespace Sys2Proof.Machine

variable {s : State}

/-! ### An idle step (R155, R170, R190) -/

theorem step_of_empty_queue (empty : s.pending = []) : step s = .next (tick s) := by simp only [step, empty]

theorem tick_inactive (off : s.active = false) : tick s = tickLinks s :=
  congrArg tickLinks (if_neg (Bool.eq_false_iff.mp off))

theorem tick_active (on : s.active = true) : tick s = tickLinks (tickTimers s) := congrArg tickLinks (if_pos on)

/-- The links tick in every run state; everything else of a bench stands. -/
theorem tickLinks_bench (b : Bench) (s : State) :
    (tickLinks s).bench b = { s.bench b with link := (s.bench b).link.tick } := by simp [tickLinks, State.bench]

theorem tickTimers_hold (p : Port) (s : State) : (tickLinks (tickTimers s)).hold p = (s.hold p).tick := by
  simp [tickLinks, tickTimers, State.hold]

theorem Merge.tick_of_not_swinging {m : Merge} (rests : ∀ r left w, m ≠ .swinging r left w) : m.tick = m := by
  cases m with
  | swinging r left w => exact absurd rfl (rests r left w)
  | idle | swung | tenure => rfl

/-- Of a call, 50 ms move its short timer alone. -/
theorem tickTimers_calls (s : State) : (tickTimers s).lnc.calls.map (fun c => { c with timer := .none }) =
    s.lnc.calls.map (fun c => { c with timer := .none }) := by
  simp only [tickTimers, List.map_map, Function.comp_def]

/-- Settles O2: outside RUNNING and DRAINING the links tick alone; in them the timers below the second tick too. -/
theorem idleStepMovesTimersOnly : Obligations.IdleStepMovesTimersOnly := by
  intro s empty
  refine ⟨tick s, step_of_empty_queue empty, ?_⟩
  cases on : s.active with
  | false =>
    rw [tick_inactive on]
    exact ⟨rfl, rfl, fun _ left _ swinging => ⟨left, swinging⟩, fun _ => rfl, rfl, fun _ => rfl,
      fun b => by rw [tickLinks_bench]; rfl, fun _ => ⟨rfl, rfl, rfl, rfl⟩⟩
  | true =>
    rw [tick_active on]
    refine ⟨rfl, tickTimers_calls s, fun r left w swinging => ⟨countDown left, ?_⟩, Merge.tick_of_not_swinging, rfl,
      fun p => ?_, fun b => ?_, nofun⟩
    · show s.mga.merge.tick = _
      rw [swinging]
      rfl
    · rw [tickTimers_hold]
      rfl
    · rw [tickLinks_bench]
      rfl

/-! ### A second of the floor clock (R130, R190) -/

theorem exec_floorClockAdvance_inactive (apart : List TimedEvent) (off : s.active = false) :
    exec (.floorClockAdvance apart) s = .next s :=
  congrArg Host.Outcome.next (if_neg (Bool.eq_false_iff.mp off))

theorem exec_floorClockAdvance_active (apart : List TimedEvent) (on : s.active = true) :
    exec (.floorClockAdvance apart) s = .next (settle (((secondPasses s).secondEvents.filter
      (fun e => !apart.contains e)).foldl (fun u e => takeTimed e u) (secondPasses s))) :=
  congrArg Host.Outcome.next (if_pos on)

/-- Settles O28: the second passes, its events are taken, the part settles. -/
theorem floorClockSecond : Obligations.FloorClockSecond := by
  intro s apart
  refine ⟨exec_floorClockAdvance_inactive apart, fun on => ?_⟩
  intro t
  have second : secondPasses s = t := rfl
  rw [exec_floorClockAdvance_active apart on, second]

end Sys2Proof.Machine
end

section
/-! SUPPORT. PANEL_RESET on every Bench Link: what it leaves of each bench. -/

namespace Sys2Proof.Machine

variable {s : State} {b d : Bench}

/-- R178: a bench after PANEL_RESET: on a link that is UP the message is handed and none is awaited. -/
def Blc.panelled (c : Blc) : Blc :=
  if c.link.up then
    { c with
      link := if c.link.isFull Config.benchQueue then c.link else c.link.enqueue (.panelReset c.staffing c.picker)
      awaited := none }
  else c

theorem panelReset_bench_self (b : Bench) (s : State) : (panelReset b s).bench b = (s.bench b).panelled := by
  simp only [panelReset, Blc.panelled]
  split
  next up =>
    simp only [benchHand, up, if_true]
    split <;> simp [setAwaited, setBenchLink, countBenchFrameError, count, State.bench, setBench]
  · rfl

theorem benchHand_bench_ne (other : b ≠ d) (m : BenchMsg) (s : State) : (benchHand b m s).bench d = s.bench d := by
  simp only [benchHand]
  split
  · split
    · rfl
    · exact setBench_bench_ne other _ s
  · rfl

theorem panelReset_bench_ne (other : b ≠ d) (s : State) : (panelReset b s).bench d = s.bench d := by
  simp only [panelReset]
  split
  · exact (setBench_bench_ne other _ _).trans (benchHand_bench_ne other _ s)
  · rfl

/-- A fold over benches in which each changes itself alone. -/
theorem foldl_bench {f : State → Bench → State} {g : State → Bench → Blc} (self : ∀ t b, (f t b).bench b = g t b)
    (others : ∀ t b d, b ≠ d → (f t b).bench d = t.bench d) (apart : ∀ t b d, b ≠ d → g (f t b) d = g t d)
    (d : Bench) (l : List Bench) (nodup : l.Nodup) : ∀ s : State,
    (l.foldl f s).bench d = if d ∈ l then g s d else s.bench d := by
  induction l with
  | nil => exact fun s => rfl
  | cons b l ih =>
    intro s
    obtain ⟨fresh, nodup⟩ := List.nodup_cons.mp nodup
    rw [List.foldl_cons, ih nodup]
    by_cases same : b = d
    · subst same
      simp [fresh, self]
    · simp [Ne.symm same, others s b d same, apart s b d same]

theorem mem_allBenches (b : Bench) : b ∈ allBenches := by
  revert b
  decide

theorem panelResets_bench (b : Bench) (s : State) : (panelResets s).bench b = (s.bench b).panelled := by
  have folded := foldl_bench (f := fun t b => panelReset b t) (g := fun t b => (t.bench b).panelled)
    (fun t b => panelReset_bench_self b t) (fun t b d other => panelReset_bench_ne other t)
    (fun t b d other => congrArg Blc.panelled (panelReset_bench_ne other t)) b allBenches (by decide) s
  exact folded.trans (if_pos (mem_allBenches b))

/-- R172: a message that finds room counts no frame error. -/
theorem panelReset_counters (room : (s.bench b).link.queue.length < Config.benchQueue) :
    (panelReset b s).ntu.counters = s.ntu.counters := by
  have notFull : (s.bench b).link.isFull Config.benchQueue = false := by
    simp only [Link.isFull, Nat.not_le.mpr room, decide_false, Bool.and_false]
  simp only [panelReset, benchHand, notFull]
  split <;> rfl

theorem panelReset_foldl_counters (l : List Bench) (nodup : l.Nodup) : ∀ s : State,
    (∀ b ∈ l, (s.bench b).link.queue.length < Config.benchQueue) →
    (l.foldl (fun t b => panelReset b t) s).ntu.counters = s.ntu.counters := by
  induction l with
  | nil => exact fun s _ => rfl
  | cons b l ih =>
    intro s room
    obtain ⟨fresh, nodup⟩ := List.nodup_cons.mp nodup
    rw [List.foldl_cons, ih nodup, panelReset_counters (room b List.mem_cons_self)]
    intro d mem
    have other : b ≠ d := fun same => fresh (same ▸ mem)
    rw [panelReset_bench_ne other]
    exact room d (List.mem_cons_of_mem b mem)

theorem panelResets_eq (room : ∀ b : Bench, (s.bench b).link.queue.length < Config.benchQueue) :
    panelResets s = { s with blc := s.blc.map Blc.panelled } := by
  have counters : (panelResets s).ntu.counters = s.ntu.counters :=
    panelReset_foldl_counters allBenches (by decide) s fun b _ => room b
  have blc : (panelResets s).blc = s.blc.map Blc.panelled := Vector.ext fun i inside => by
    rw [Vector.getElem_map]
    exact panelResets_bench ⟨i, inside⟩ s
  rw [(panelResets_only s).rest, counters, blc]

end Sys2Proof.Machine
end

section
/-! SUPPORT. CONTROL writes (O8) and the Clear (O9). -/

namespace Sys2Proof.Machine

variable {s : State} {w : Word}

/-! ### A CONTROL write without CLEAR (R183, R184, R188) -/

/-- RUN and NOTICE_ENABLE loaded and the conditions found, before RUN acts. -/
def controlLoaded (w : Word) (s : State) : State :=
  ({ s with pau := { s.pau with run := w.getLsbD 0, noticeEnable := w.getLsbD 2 } } : State).signalsFound
    s.live.suppressPrior

theorem controlLoaded_eq (w : Word) (s : State) : findSignals s.live.suppressPrior
    (setPau { s.pau with run := w.getLsbD 0, noticeEnable := w.getLsbD 2 } s) = controlLoaded w s := findSignals_eq _ _

theorem exec_run (w : Word) (s : State) : exec (.run w) s = .next (controlWrite w s) := rfl

section
variable (keep : w.getLsbD 1 = false)
include keep

theorem controlWrite_stopped (stopped : s.pau.runState = .stopped) : controlWrite w s =
    if w.getLsbD 0 = true ∧ s.pau.run = false then beginStarting (controlLoaded w s) else controlLoaded w s := by
  simp only [controlWrite, keep, controlLoaded_eq, Bool.false_eq_true, if_false, Bool.and_eq_true, Bool.not_eq_true']
  simp only [stopped]

theorem controlWrite_starting (starting : s.pau.runState = .starting) : controlWrite w s =
    setPau { (controlLoaded w s).pau with drainDue := !w.getLsbD 0 } (controlLoaded w s) := by
  simp only [controlWrite, keep, controlLoaded_eq, Bool.false_eq_true, if_false]
  simp only [starting]

theorem controlWrite_running (running : s.pau.runState = .running) : controlWrite w s =
    if s.pau.run = true ∧ w.getLsbD 0 = false then settle (enterDraining (controlLoaded w s)) else controlLoaded w s := by
  simp only [controlWrite, keep, controlLoaded_eq, Bool.false_eq_true, if_false, Bool.and_eq_true, Bool.not_eq_true']
  simp only [running]

theorem controlWrite_leaving (leaving : s.pau.runState = .draining ∨ s.pau.runState = .faulted) :
    controlWrite w s = controlLoaded w s := by
  simp only [controlWrite, keep, controlLoaded_eq, Bool.false_eq_true, if_false]
  rcases leaving with state | state <;> simp only [state]

end

theorem beginStarting_pau (s : State) : (beginStarting s).pau = { s.pau with
    runState := .starting, drainDue := false, sweepTimer := none, writeSeq := (beginStarting s).pau.writeSeq } := by
  obtain ⟨n, ev, g, v, started⟩ :=
    setRunState_changes .starting (setPau { s.pau with drainDue := false, sweepTimer := none } s)
  have pau : (beginStarting s).pau =
    (setRunState .starting (setPau { s.pau with drainDue := false, sweepTimer := none } s)).pau := rfl
  rw [pau, started]
  rfl

theorem enterDraining_runState (s : State) : (enterDraining s).pau.runState = .draining :=
  setRunState_runState .draining _

/-- Settles O8: one clause for each run state, RUN's edge deciding in STOPPED and RUNNING. -/
theorem controlWriteLoadsAndActs : Obligations.ControlWriteLoadsAndActs := by
  intro s w keep t
  have loaded : controlLoaded w s = t := rfl
  refine ⟨rfl, fun stopped low high => ⟨beginStarting t, ?_, beginStarting_pau t, beginStarting_reads t⟩,
    fun stopped still => ?_, fun starting => ?_, fun running high low => ⟨?_, enterDraining_runState t⟩,
    fun running still => ?_, fun leaving => ?_⟩
  · rw [exec_run, controlWrite_stopped keep stopped, if_pos ⟨high, low⟩, loaded]
  · rw [exec_run, controlWrite_stopped keep stopped, if_neg (still ∘ And.symm), loaded]
  · rw [exec_run, controlWrite_starting keep starting, loaded]
    rfl
  · rw [exec_run, controlWrite_running keep running, if_pos ⟨high, low⟩, loaded]
  · rw [exec_run, controlWrite_running keep running, if_neg still, loaded]
  · rw [exec_run, controlWrite_leaving keep leaving, loaded]

/-! ### The Clear (R193) -/

theorem exec_clear (clear : w.getLsbD 1 = true) (s : State) : exec (.clear w) s = .next (clearAll s) :=
  congrArg Host.Outcome.next (if_pos clear)

/-- R19: what a Status Block write changes, the counter exactly. -/
theorem writeStatus_counts (s : State) : ∃ v, writeStatus s = { s with
    pau := { s.pau with writeSeq := if s.pau.structural.isSome then s.pau.writeSeq + 1 else s.pau.writeSeq }
    bus := { s.bus with posted := s.bus.posted ++ v } } := by
  unfold writeStatus
  split
  next untaken =>
    refine ⟨[], ?_⟩
    rw [if_neg (by simp [untaken]), List.append_nil]
  next st taken =>
    exact ⟨_, by rw [if_pos (by simp [taken])]; simp only [post, List.append_assoc]; rfl⟩

/-- R182: with EVENTS 0 no condition is true. -/
theorem signalCondition_of_no_events (clear : s.ntu.events = 0) (v : Fin 4) : s.signalCondition v = false := by
  simp [State.signalCondition, clear]

theorem clearEvents_changes (s : State) : ∃ v, clearEvents s = { s with
    ntu := { s.ntu with events := 0, signals := .replicate 4 false }
    bus := { s.bus with posted := s.bus.posted ++ v } } := by
  rw [clearEvents, findSignals_eq]
  refine ⟨State.noticesFor false { s with ntu := { s.ntu with events := 0 } }, ?_⟩
  simp only [State.signalsFound, signalCondition_of_no_events]
  rfl

/-- The blocks emptied, the Status Block written, and RUN_STATE raised when the run state changed (R193). -/
def clearRaised (s : State) : State :=
  if s.pau.runState = .stopped then writeStatus (clearBlocks s) else raise .runState (writeStatus (clearBlocks s))

theorem clearAll_eq (s : State) : clearAll s = clearEvents (panelResets (clearRaised s)) := rfl

theorem clearRaised_changes (s : State) : ∃ ev g v, clearRaised s = { clearBlocks s with
    pau := { s.pau.cleared with
      writeSeq := if s.pau.structural.isSome then s.pau.writeSeq + 1 else s.pau.writeSeq }
    bus := { (discardReads s).bus with posted := s.bus.posted ++ v }
    ntu := { (clearBlocks s).ntu with events := ev, signals := g } } := by
  obtain ⟨v, written⟩ := writeStatus_counts (clearBlocks s)
  unfold clearRaised
  split
  · exact ⟨s.ntu.events, s.ntu.signals, v, written⟩
  · obtain ⟨g, u, raised⟩ := raise_changes .runState (writeStatus (clearBlocks s))
    refine ⟨s.ntu.events ||| Event.runState.bits, g, v ++ u, ?_⟩
    rw [raised, written, ← List.append_assoc]
    rfl

/-- R193: all that a Clear leaves. -/
theorem clearAll_changes (s : State) : ∃ v, clearAll s = { clearBlocks s with
    pau := { s.pau.cleared with
      writeSeq := if s.pau.structural.isSome then s.pau.writeSeq + 1 else s.pau.writeSeq }
    bus := { (discardReads s).bus with posted := s.bus.posted ++ v }
    blc := (s.blc.map Blc.cleared).map Blc.panelled
    ntu := { events := 0, mask := s.ntu.mask, signals := .replicate 4 false, capture := Capture.initial,
             counters := Counters.zero } } := by
  obtain ⟨ev, g, v, raised⟩ := clearRaised_changes s
  have room : ∀ b : Bench, ((clearRaised s).bench b).link.queue.length < Config.benchQueue := fun b => by
    have empty : ((clearRaised s).bench b).link.queue = [] := by
      simp [raised, State.bench, clearBlocks, Blc.cleared, Link.clearQueue]
    rw [empty]
    decide
  obtain ⟨u, cleared⟩ := clearEvents_changes (panelResets (clearRaised s))
  refine ⟨v ++ u, ?_⟩
  rw [clearAll_eq, cleared, panelResets_eq room, raised, ← List.append_assoc]
  rfl

theorem Blc.cleared_panelled (c : Blc) : c.cleared.panelled.staffing = .closed ∧ c.cleared.panelled.picker = 0
    ∧ c.cleared.panelled.awaited = none ∧ c.cleared.panelled.lastTicket = 255
    ∧ c.cleared.panelled.link.up = c.link.up := by
  have up : c.cleared.link.up = c.link.up := rfl
  unfold Blc.panelled
  split
  · refine ⟨rfl, rfl, rfl, rfl, ?_⟩
    split
    · rfl
    · rw [Link.enqueue_up, up]
  · exact ⟨rfl, rfl, rfl, rfl, rfl⟩

/-- Settles O9. -/
theorem clearEmptiesEveryBlock : Obligations.ClearEmptiesEveryBlock := by
  intro s w clear
  obtain ⟨v, cleared⟩ := clearAll_changes s
  refine ⟨_, exec_clear clear s, ?_⟩
  rw [cleared]
  refine ⟨rfl, rfl, rfl, rfl, rfl, rfl, rfl, rfl, rfl, fun b => ?_, rfl, discardReads_discarded s, rfl, rfl⟩
  have bench : ((s.blc.map Blc.cleared).map Blc.panelled)[b] = (s.bench b).cleared.panelled := by simp [State.bench]
  have left := Blc.cleared_panelled (s.bench b)
  rwa [← bench] at left

end Sys2Proof.Machine
end

section
/-! SUPPORT. The entry to DRAINING (O26): staged cards finished, calls cancelled. -/

namespace Sys2Proof.Machine

variable {s : State}

/-- A field that each step of a fold keeps. -/
theorem foldl_keeps {α β : Type} (field : State → β) {f : State → α → State}
    (keeps : ∀ t a, field (f t a) = field t) (l : List α) : ∀ s, field (l.foldl f s) = field s := by
  induction l with
  | nil => exact fun _ => rfl
  | cons a l ih => exact fun s => (ih (f s a)).trans (keeps s a)

theorem returnCard_cdm (c : CardCtx) (s : State) : (returnCard c s).cdm = s.cdm := by
  unfold returnCard
  split <;> simp [writeDone]

theorem cancelCalls_cdm (why : CancelReason) (sel : Call → Bool) (s : State) : (cancelCalls why sel s).cdm = s.cdm :=
  foldl_keeps State.cdm (fun t c => by simp [cancelCall, apply_ite State.cdm]) _ s

theorem setRunState_cdm (r : RunState) (s : State) : (setRunState r s).cdm = s.cdm := by
  obtain ⟨n, ev, g, w, changed⟩ := setRunState_changes r s
  rw [changed]

theorem CardCtx.named_self (c : CardCtx) : c.named c.card c.seq = true := by simp [CardCtx.named]

/-- R46: a finished card is what leaves a staging list. -/
theorem mem_finishStaged_staged {c d : CardCtx} {b : Bench} (r : CardResult) (lr : LineResult)
    (mem : d ∈ (finishStaged r lr c s).staged b) :
    d ∈ s.staged b ∧ ¬(c.bench = b ∧ d.named c.card c.seq = true) := by
  have left : (finishStaged r lr c s).staged b = (unstage c s).staged b :=
    congrArg (fun x : Cdm => x.staging[b]) (returnCard_cdm (c.unpresented r lr) (unstage c s))
  rw [left] at mem
  by_cases own : c.bench = b
  · subst own
    simpa [unstage] using mem
  · rw [unstage, setStaged_staged_ne own] at mem
    exact ⟨mem, fun own' => own own'.left⟩

/-- R50, R53: what a staged card is given at the entry to DRAINING. -/
theorem finishStaged_drained (s : State) (c : CardCtx) :
    let t := { s with cdm := { s.cdm with
      staging := s.cdm.staging.set c.bench ((s.staged c.bench).filter (fun d => !d.named c.card c.seq)) } }
    let done : CardCtx := { c with
      result := some .drained
      exposureTotal := some (s.exposureTotal c)
      lines := c.lines.map (fun l =>
        { l with picked := 0, remaining := 0, shortfall := l.qty, result := some .notPresented }) }
    finishStaged .drained .notPresented c s =
      raise .cardDone (post (s.cardAddr c.card) [3] (post (s.cardAddr c.card + 0x40)
        (done.part .drained s.clock).bytes (endExposure c t))) := by
  simp only [finishStaged, returnCard, CardCtx.unpresented, writeDone, unstage]
  rfl

theorem mem_finishStaged_foldl {d : CardCtx} {b : Bench} (r : CardResult) (lr : LineResult) (l : List CardCtx) :
    ∀ s : State, d ∈ (l.foldl (fun u c => finishStaged r lr c u) s).staged b →
      d ∈ s.staged b ∧ ∀ c ∈ l, ¬(c.bench = b ∧ d.named c.card c.seq = true) := by
  induction l with
  | nil => exact fun s mem => ⟨mem, List.forall_mem_nil _⟩
  | cons c l ih =>
    intro s mem
    rw [List.foldl_cons] at mem
    obtain ⟨left, rest⟩ := ih (finishStaged r lr c s) mem
    obtain ⟨stood, first⟩ := mem_finishStaged_staged r lr left
    exact ⟨stood, List.forall_mem_cons.mpr ⟨first, rest⟩⟩

/-- A card of its own bench's list is gone once that bench has had its turn. -/
theorem not_mem_finished_benches {c : CardCtx} {b : Bench} (own : c.bench = b) (l : List Bench) : ∀ s : State,
    c ∈ (l.foldl (fun t x => (t.staged x).foldl (fun u d => finishStaged .drained .notPresented d u) t) s).staged b →
      c ∈ s.staged b ∧ b ∉ l := by
  induction l with
  | nil => exact fun s mem => ⟨mem, List.not_mem_nil⟩
  | cons x l ih =>
    intro s mem
    rw [List.foldl_cons] at mem
    obtain ⟨left, later⟩ := ih _ mem
    obtain ⟨stood, finished⟩ := mem_finishStaged_foldl .drained .notPresented (s.staged x) s left
    refine ⟨stood, List.not_mem_cons_of_ne_of_not_mem (fun same => ?_) later⟩
    subst same
    exact finished c stood ⟨own, c.named_self⟩

theorem not_mem_enterDraining_staged {c : CardCtx} {b : Bench} (own : c.bench = b) (s : State) :
    c ∉ (enterDraining s).staged b := by
  intro mem
  rw [enterDraining, State.staged, setRunState_cdm, cancelCalls_cdm] at mem
  exact (not_mem_finished_benches own allBenches s mem).right (mem_allBenches b)

theorem enterDraining_eq (s : State) : enterDraining s =
    setRunState .draining ((finishAllStaged s).lnc.calls.foldl (fun t c => cancelCall .drain c t) (finishAllStaged s)) := by
  rw [enterDraining, cancelCalls, List.filter_true]

end Sys2Proof.Machine
end

section
/-! SUPPORT. The end of a drain (O26): orders written CLOSED, panels reset, the blocks emptied. -/

namespace Sys2Proof.Machine

variable {s t u : State}

/-! ### Orders written CLOSED (R68, R71) -/

/-- What the closing of orders leaves: everything but positions, reads, posted writes and events; what was posted, raised
or given up stays so. -/
structure ClosesOnly (s t : State) : Prop where
  rest : t = { s with
    wall := t.wall
    bus := { s.bus with reads := t.bus.reads, posted := t.bus.posted }
    ntu := { s.ntu with events := t.ntu.events, signals := t.ntu.signals } }
  posted : ∃ more, t.bus.posted = s.bus.posted ++ more
  raised : ∀ i, s.ntu.events.getLsbD i = true → t.ntu.events.getLsbD i = true
  discarded : (∀ r ∈ s.bus.reads, r.discarded = true) → ∀ r ∈ t.bus.reads, r.discarded = true

theorem ClosesOnly.refl (s : State) : ClosesOnly s s := ⟨rfl, ⟨[], (List.append_nil _).symm⟩, fun _ => id, id⟩

theorem ClosesOnly.trans (a : ClosesOnly s t) (b : ClosesOnly t u) : ClosesOnly s u where
  rest := by rw [b.rest, a.rest]
  posted := by
    obtain ⟨x, hx⟩ := a.posted
    obtain ⟨y, hy⟩ := b.posted
    exact ⟨x ++ y, by rw [hy, hx, List.append_assoc]⟩
  raised i := b.raised i ∘ a.raised i
  discarded := b.discarded ∘ a.discarded

theorem ClosesOnly.pau (a : ClosesOnly s t) : t.pau = s.pau := by rw [a.rest]
theorem ClosesOnly.blc (a : ClosesOnly s t) : t.blc = s.blc := by rw [a.rest]

theorem closes_foldl {α : Type} {f : State → α → State} (closes : ∀ t a, ClosesOnly t (f t a)) (l : List α) :
    ∀ s, ClosesOnly s (l.foldl f s) := by
  induction l with
  | nil => exact fun s => .refl s
  | cons a l ih => exact fun s => (closes s a).trans (ih (f s a))

theorem closes_forgetOrderFlags (q : PutPos) (e : Position) (s : State) :
    ClosesOnly s (forgetOrderFlags q (setPosition q e s)) where
  rest := rfl
  posted := ⟨[], (List.append_nil _).symm⟩
  raised _ := id
  discarded given r mem := by
    obtain ⟨x, old, rfl⟩ := List.mem_map.mp mem
    split
    · split <;> exact given x old
    · exact given x old

theorem closes_post (addr : Nat) (data : List Byte) (s : State) : ClosesOnly s (post addr data s) :=
  ⟨rfl, ⟨_, rfl⟩, fun _ => id, id⟩

theorem closes_raise (e : Event) (s : State) : ClosesOnly s (raise e s) := by
  obtain ⟨g, w, raised⟩ := raise_changes e s
  rw [raised]
  refine ⟨rfl, ⟨w, rfl⟩, fun i bit => ?_, id⟩
  show (s.ntu.events ||| e.bits).getLsbD i = true
  rw [BitVec.getLsbD_or, bit, Bool.true_or]

theorem closes_closeOrder (q : PutPos) (reason : CloseReason) (s : State) : ClosesOnly s (closeOrder q reason s) := by
  simp only [closeOrder]
  have emptied := closes_forgetOrderFlags q Position.empty s
  split
  · exact ((emptied.trans (closes_post _ _ _)).trans (closes_post _ _ _)).trans (closes_raise .orderClosed _)
  · exact emptied

/-- R71: one position's part of the end of a drain. -/
def closeHeld (s : State) (q : PutPos) : State := if (s.position q).state.holds then closeOrder q .drained s else s

theorem closeDrained_eq (s : State) : closeDrained s = allPositions.foldl closeHeld s := rfl

theorem closes_closeHeld (s : State) (q : PutPos) : ClosesOnly s (closeHeld s q) := by
  unfold closeHeld
  split
  · exact closes_closeOrder q .drained s
  · exact .refl s

/-- What becomes of a position when held orders are closed. -/
def Position.closed (e : Position) : Position := if e.state.holds then Position.empty else e

theorem closeHeld_position_self (q : PutPos) (s : State) : (closeHeld s q).position q = (s.position q).closed := by
  unfold closeHeld Position.closed
  split
  · simp [State.position, closeOrder_wall]
  · rfl

theorem closeHeld_position_ne {q r : PutPos} (other : q ≠ r) (s : State) :
    (closeHeld s q).position r = s.position r := by
  unfold closeHeld
  split
  · have apart : q.val ≠ r.val := fun same => other (Fin.ext same)
    simp [State.position, closeOrder_wall, apart]
  · rfl

theorem closeHeld_foldl_position_ne {q : PutPos} (l : List PutPos) (fresh : q ∉ l) : ∀ s : State,
    (l.foldl closeHeld s).position q = s.position q := by
  induction l with
  | nil => exact fun s => rfl
  | cons r l ih =>
    intro s
    have other : r ≠ q := (List.ne_of_not_mem_cons fresh).symm
    rw [List.foldl_cons, ih (List.not_mem_of_not_mem_cons fresh), closeHeld_position_ne other]

/-- The turn of one position: those before it and behind it are others. -/
theorem closeDrained_turn (q : PutPos) (s : State) : ∃ before, ClosesOnly s before ∧ before.position q = s.position q
    ∧ ClosesOnly (closeHeld before q) (closeDrained s)
    ∧ (closeDrained s).position q = (closeHeld before q).position q := by
  obtain ⟨l, m, split, fresh⟩ := List.eq_append_cons_of_mem (List.mem_finRange q)
  have once : (l ++ q :: m).Nodup := split ▸ List.nodup_finRange 64
  have later : q ∉ m := (List.nodup_cons.mp (List.nodup_append.mp once).right.left).left
  have closed : closeDrained s = m.foldl closeHeld (closeHeld (l.foldl closeHeld s) q) := by
    rw [closeDrained_eq, allPositions, split, List.foldl_append, List.foldl_cons]
  refine ⟨l.foldl closeHeld s, closes_foldl closes_closeHeld l s, closeHeld_foldl_position_ne l fresh s, ?_, ?_⟩
  · rw [closed]
    exact closes_foldl closes_closeHeld m _
  · rw [closed, closeHeld_foldl_position_ne m later]

theorem closes_closeDrained (s : State) : ClosesOnly s (closeDrained s) := closes_foldl closes_closeHeld allPositions s

theorem closeDrained_position (q : PutPos) (s : State) : (closeDrained s).position q = (s.position q).closed := by
  obtain ⟨before, -, same, -, turn⟩ := closeDrained_turn q s
  rw [turn, closeHeld_position_self, same]

/-- R68: a held order's result part, then CLOSED, then ORDER_CLOSED. -/
theorem closeDrained_writes {q : PutPos} {e : Position} {j : Nat} (stands : s.position q = e)
    (held : e.state.holds = true) (order : e.order = some j) : (closeDrained s).ntu.events.getLsbD 1 = true
    ∧ ∃ before later, (closeDrained s).bus.posted = before
      ++ [{ addr := s.orderAddr j + 0x20, data := (e.part q .drained (some s.clock)).bytes },
          { addr := s.orderAddr j, data := [3] }] ++ later := by
  obtain ⟨v, before, same, after, -⟩ := closeDrained_turn q s
  have addr : v.orderAddr j = s.orderAddr j := by simp only [State.orderAddr, State.st, before.pau]
  have clock : v.clock = s.clock := by simp only [State.clock, before.pau]
  have position : v.position q = e := same.trans stands
  rw [closeHeld, position, if_pos held, closeOrder_of_order .drained (by rw [position, order]), addr, clock,
    position] at after
  obtain ⟨more, posted⟩ := after.posted
  refine ⟨after.raised 1 ?_, ?_⟩
  · rw [raise_events, BitVec.getLsbD_or]
    exact Bool.or_eq_true_iff.mpr (.inr (by decide))
  · obtain ⟨g, w, raised⟩ := raise_changes .orderClosed (post (s.orderAddr j) [3]
      (post (s.orderAddr j + 0x20) (e.part q .drained (some s.clock)).bytes
        (forgetOrderFlags q { v with wall := v.wall.set q Position.empty })))
    refine ⟨v.bus.posted, w ++ more, ?_⟩
    rw [posted, raised]
    simp [State.noticed]

/-! ### Answers to the PLACEs that await their binding (R71, R174) -/

/-- The messages of a bench that wait: in the queue, or to be answered. -/
def Blc.waiting (c : Blc) : Nat := c.link.queue.length + c.awaited.toList.length

/-- What answers leave of each bench: an answer takes the place of its awaited message. -/
structure AnswersOnly (s t : State) : Prop where
  bench : ∀ b : Bench, t.bench b = { s.bench b with link := (t.bench b).link, awaited := (t.bench b).awaited }
  up : ∀ b : Bench, (t.bench b).link.up = (s.bench b).link.up
  waiting : ∀ b : Bench, (t.bench b).waiting ≤ (s.bench b).waiting
  unawaited : ∀ b : Bench, (s.bench b).awaited = none → (t.bench b).awaited = none

theorem AnswersOnly.of_blc (same : t.blc = s.blc) : AnswersOnly s t := by
  have bench : ∀ b : Bench, t.bench b = s.bench b := fun b => by rw [State.bench, same]; rfl
  exact ⟨fun b => by rw [bench], fun b => by rw [bench], fun b => by rw [bench], fun b => by rw [bench]; exact id⟩

theorem AnswersOnly.refl (s : State) : AnswersOnly s s := .of_blc rfl

theorem AnswersOnly.trans (a : AnswersOnly s t) (b : AnswersOnly t u) : AnswersOnly s u where
  bench x := by rw [b.bench, a.bench]
  up x := by rw [b.up, a.up]
  waiting x := (b.waiting x).trans (a.waiting x)
  unawaited x := b.unawaited x ∘ a.unawaited x

theorem answers_foldl {α : Type} {f : State → α → State} (answers : ∀ t a, AnswersOnly t (f t a)) (l : List α) :
    ∀ s, AnswersOnly s (l.foldl f s) := by
  induction l with
  | nil => exact fun s => .refl s
  | cons a l ih => exact fun s => (answers s a).trans (ih (f s a))

theorem benchHand_queue (b : Bench) (m : BenchMsg) (s : State) :
    ((benchHand b m s).bench b).link.queue.length ≤ (s.bench b).link.queue.length + 1 := by
  simp only [benchHand]
  split
  · split
    · exact Nat.le_succ _
    · rw [setBenchLink, setBench_bench_self, Link.enqueue_queue]
      split
      · rw [List.length_append]
        rfl
      · exact Nat.le_succ _
  · exact Nat.le_succ _

theorem answer_none {b : Bench} (r : Reason) (quiet : (s.bench b).awaited = none) : answer b r s = s := by
  simp only [answer, quiet]

theorem answers_answer (b : Bench) (r : Reason) (s : State) : AnswersOnly s (answer b r s) := by
  cases awaited : (s.bench b).awaited with
  | none =>
    rw [answer_none r awaited]
    exact .refl s
  | some a =>
    have handed : answer b r s = setAwaited b none (benchHand b (.answer a.ticket a.ty a.port a.p r) s) := by
      simp only [answer, awaited]
    have self : (answer b r s).bench b =
        { (benchHand b (.answer a.ticket a.ty a.port a.p r) s).bench b with awaited := none } := by
      rw [handed, setAwaited, setBench_bench_self]
    have others : ∀ d, b ≠ d → (answer b r s).bench d = s.bench d := fun d other => by
      rw [handed, setAwaited, setBench_bench_ne other, benchHand_bench_ne other]
    refine ⟨(answer_only b r s).bench, (answer_only b r s).up, fun d => ?_, fun d quiet => ?_⟩
    · by_cases same : b = d
      · subst same
        rw [self, Blc.waiting, Blc.waiting, awaited]
        exact benchHand_queue b _ s
      · rw [others d same]
    · by_cases same : b = d
      · subst same
        rw [self]
      · rw [others d same, quiet]

theorem answers_answerPlace (q : PutPos) (r : Reason) (s : State) : AnswersOnly s (answerPlace q r s) := by
  unfold answerPlace
  split
  · exact .refl s
  · split
    · exact answers_answer _ r s
    · exact .refl s

theorem answers_cancelBinding (q : PutPos) (s : State) : AnswersOnly s (cancelBinding q s) := by
  unfold cancelBinding
  split
  · have emptied : AnswersOnly s (setPosition q Position.empty s) := .of_blc rfl
    exact emptied.trans (answers_answerPlace q .cancelled _)
  · exact .of_blc rfl

theorem answers_cancelBindings (s : State) : AnswersOnly s (cancelBindings s) :=
  answers_foldl (fun t q => answers_cancelBinding q t) allPositions s

theorem Link.mem_enqueue {M : Type} (m : M) (l : Link M) :
    m ∈ (l.enqueue m).sending.toList ++ (l.enqueue m).queue := by
  unfold Link.enqueue
  split <;> simp [Link.start]

theorem Blc.panelled_awaited {c : Blc} (quiet : c.link.up = true ∨ c.awaited = none) : c.panelled.awaited = none := by
  unfold Blc.panelled
  split
  · rfl
  next down => exact quiet.resolve_left down

/-- R172, R178: with room in the queue PANEL_RESET is begun or waits. -/
theorem Blc.panelled_message {c : Blc} (up : c.link.up = true) (room : c.link.queue.length < Config.benchQueue) :
    BenchMsg.panelReset c.staffing c.picker ∈ c.panelled.link.sending.toList ++ c.panelled.link.queue := by
  have notFull : c.link.isFull Config.benchQueue = false := by
    simp only [Link.isFull, Nat.not_le.mpr room, decide_false, Bool.and_false]
  simp only [Blc.panelled, up, notFull, if_true, Bool.false_eq_true, if_false]
  exact Link.mem_enqueue _ _

/-! ### The end of a drain (R192) -/

theorem drained_iff : s.drained = true ↔
    s.lnc.calls = [] ∧ (∀ p : Port, s.lane p = []) ∧ s.mga.merge = .idle := by
  have every : ∀ p : Port, p ∈ allPorts := by decide
  simp only [State.drained, Bool.and_eq_true, List.isEmpty_iff, List.all_eq_true, beq_iff_eq, and_assoc, every,
    forall_true_left]

theorem BindingsOnly.pau (a : BindingsOnly s t) : t.pau = s.pau := by
  unfold BindingsOnly at a
  rw [a]

theorem BindingsOnly.bus (a : BindingsOnly s t) : t.bus = s.bus := by
  unfold BindingsOnly at a
  rw [a]

theorem BindingsOnly.events (a : BindingsOnly s t) : t.ntu.events = s.ntu.events := by
  unfold BindingsOnly at a
  rw [a]

/-- The sweep and the reads given up and the bindings cancelled, before the closing of orders. -/
def drainCancelled (s : State) : State := cancelBindings (discardReads (abandonSweep s))

/-- The orders that are still held closed too. -/
def drainClosed (s : State) : State := closeDrained (drainCancelled s)

theorem drainCancelled_position (q : PutPos) (s : State) :
    (drainCancelled s).position q = (s.position q).cancelled := cancelBindings_position q _

theorem drainCancelled_pau (s : State) :
    (drainCancelled s).pau = { s.pau with sweep := none, sweepTimer := none, editionDue := false } :=
  (bindings_cancelBindings _).pau

theorem drainCancelled_events (s : State) : (drainCancelled s).ntu.events = s.ntu.events := by
  rw [drainCancelled, (bindings_cancelBindings _).events]
  rfl

theorem drainCancelled_answers (s : State) : AnswersOnly s (drainCancelled s) := by
  have given : AnswersOnly s (discardReads (abandonSweep s)) := .of_blc rfl
  exact given.trans (answers_cancelBindings _)

theorem setRunState_raises (r : RunState) (s : State) : ∃ n g w, setRunState r s = { s with
    pau := { s.pau with runState := r, writeSeq := n }
    bus := { s.bus with posted := s.bus.posted ++ w }
    ntu := { s.ntu with events := s.ntu.events ||| Event.runState.bits, signals := g } } := by
  obtain ⟨n, ev, g, w, changed⟩ := setRunState_changes r s
  have events : (setRunState r s).ntu.events = s.ntu.events ||| Event.runState.bits := by
    obtain ⟨n, w, written⟩ := writeStatus_changes { s with pau := { s.pau with runState := r } }
    rw [setRunState, raise_events, written]
  rw [changed] at events
  exact ⟨n, g, w, by rw [changed, ← events]⟩

theorem drainClosed_only (s : State) : ∃ r w, drainClosed s = { s with
    pau := { s.pau with sweep := none, sweepTimer := none, editionDue := false }
    bus := { s.bus with reads := r, posted := w }
    wall := (drainClosed s).wall
    blc := (drainClosed s).blc
    ntu := { s.ntu with
      events := (drainClosed s).ntu.events, signals := (drainClosed s).ntu.signals
      counters := (drainClosed s).ntu.counters } } := by
  have closed := (closes_closeDrained (drainCancelled s)).rest
  have cancelled : BindingsOnly _ (drainCancelled s) := bindings_cancelBindings _
  unfold BindingsOnly at cancelled
  refine ⟨(drainClosed s).bus.reads, (drainClosed s).bus.posted, ?_⟩
  rw [drainClosed]
  generalize drainCancelled s = c at closed cancelled ⊢
  generalize closeDrained c = d at closed ⊢
  generalize d.wall = wall, d.bus.reads = r, d.bus.posted = w, d.ntu.events = ev, d.ntu.signals = g at closed ⊢
  subst closed
  generalize c.wall = wall', c.blc = blc, c.ntu.counters = k at cancelled ⊢
  subst cancelled
  rfl

/-- The end of a drain up to the change of run state. -/
def drainEmptied (s : State) : State :=
  let c := lapseHolds (clearGridQueue (panelResets (drainClosed s)))
  setMga c.mga.drained (clearTakeMarks (emptyMisses c))

theorem endDrain_eq (s : State) : endDrain s = setRunState .stopped (drainEmptied s) := rfl

/-- What the end of a drain clears and what it leaves, after the closing of orders. -/
theorem endDrain_changes (s : State) : ∃ n g w k, endDrain s = { s with
    pau := { s.pau with runState := .stopped, sweep := none, sweepTimer := none, editionDue := false, writeSeq := n }
    bus := { (drainClosed s).bus with posted := (drainClosed s).bus.posted ++ w }
    ttu := { s.ttu with misses := [], inFlight := none }
    cdm := { s.cdm with chains := s.cdm.chains.map (fun c => { c with takeInFlight := false }) }
    wall := (drainClosed s).wall
    mga := s.mga.drained
    glc := { link := s.glc.link.clearQueue
             holds := s.glc.holds.map (fun h => { h with holding := false, refresh := none, expiry := none }) }
    blc := (panelResets (drainClosed s)).blc
    ntu := { s.ntu with
      events := (drainClosed s).ntu.events ||| Event.runState.bits, signals := g, counters := k } } := by
  obtain ⟨r, w, closed⟩ := drainClosed_only s
  have panels := (panelResets_only (drainClosed s)).rest
  obtain ⟨n, g, w, stopped⟩ := setRunState_raises .stopped (drainEmptied s)
  refine ⟨n, g, w, (panelResets (drainClosed s)).ntu.counters, ?_⟩
  rw [endDrain_eq, stopped, drainEmptied]
  generalize panelResets (drainClosed s) = p at panels ⊢
  generalize p.blc = blc, p.ntu.counters = k at panels ⊢
  subst panels
  generalize drainClosed s = d at closed ⊢
  generalize d.wall = wall, d.blc = blc', d.ntu.events = ev, d.ntu.signals = g', d.ntu.counters = k' at closed ⊢
  subst closed
  rfl

/-! ### The end of a drain, clause by clause -/

theorem Position.cancelled_closed (e : Position) :
    e.cancelled.closed.state = .empty ∧ e.cancelled.closed.stale = false := by
  obtain ⟨state⟩ := e
  cases state <;> exact ⟨rfl, rfl⟩

/-- An order that is held is in no binding. -/
theorem Position.cancelled_of_holds {e : Position} (held : e.state.holds = true) :
    e.cancelled = { e with stale := false } := if_neg fun binding => by
  rw [binding] at held
  exact absurd held Bool.false_ne_true

theorem drainClosed_position (q : PutPos) (s : State) :
    (drainClosed s).position q = (s.position q).cancelled.closed := by
  rw [drainClosed, closeDrained_position, drainCancelled_position]

theorem drainClosed_discarded (s : State) : ∀ r ∈ (drainClosed s).bus.reads, r.discarded = true := by
  have bus : (drainCancelled s).bus = (discardReads (abandonSweep s)).bus := (bindings_cancelBindings _).bus
  rw [drainClosed]
  refine (closes_closeDrained (drainCancelled s)).discarded ?_
  rw [bus]
  exact discardReads_discarded (abandonSweep s)

theorem drainClosed_answers (s : State) : AnswersOnly s (drainClosed s) :=
  (drainCancelled_answers s).trans (.of_blc (closes_closeDrained _).blc)

theorem drainClosed_writes {q : PutPos} {j : Nat} (held : (s.position q).state.holds = true)
    (order : (s.position q).order = some j) : (drainClosed s).ntu.events.getLsbD 1 = true
    ∧ ∃ before later, (drainClosed s).bus.posted = before
      ++ [{ addr := s.orderAddr j + 0x20, data := ((s.position q).part q .drained (some s.clock)).bytes },
          { addr := s.orderAddr j, data := [3] }] ++ later := by
  have fresh : (drainCancelled s).position q = { s.position q with stale := false } :=
    (drainCancelled_position q s).trans (Position.cancelled_of_holds held)
  have addr : (drainCancelled s).orderAddr j = s.orderAddr j := by
    simp only [State.orderAddr, State.st, drainCancelled_pau]
  have clock : (drainCancelled s).clock = s.clock := by simp only [State.clock, drainCancelled_pau]
  have written := closeDrained_writes fresh held order
  rw [addr, clock] at written
  rwa [drainClosed]

/-- R178: the awaited message is cleared; one message takes its place at most, so the reset finds room. -/
theorem drained_panel {b : Bench} (up : (s.bench b).link.up = true) :
    ((panelResets (drainClosed s)).bench b).awaited = none
    ∧ ((s.bench b).link.queue.length < 63 → BenchMsg.panelReset (s.bench b).staffing (s.bench b).picker
      ∈ ((panelResets (drainClosed s)).bench b).link.sending.toList
        ++ ((panelResets (drainClosed s)).bench b).link.queue) := by
  have answers := drainClosed_answers s
  have stillUp : ((drainClosed s).bench b).link.up = true := (answers.up b).trans up
  rw [panelResets_bench]
  refine ⟨Blc.panelled_awaited (.inl stillUp), fun short => ?_⟩
  have few : (s.bench b).awaited.toList.length ≤ 1 := by cases (s.bench b).awaited <;> simp
  have room : ((drainClosed s).bench b).link.queue.length < Config.benchQueue :=
    calc ((drainClosed s).bench b).link.queue.length ≤ ((drainClosed s).bench b).waiting := Nat.le_add_right _ _
      _ ≤ (s.bench b).waiting := answers.waiting b
      _ ≤ (s.bench b).link.queue.length + 1 := Nat.add_le_add_left few _
      _ < 63 + 1 := Nat.succ_lt_succ short
  have message := Blc.panelled_message stillUp room
  have staffing : ((drainClosed s).bench b).staffing = (s.bench b).staffing := by rw [answers.bench b]
  have picker : ((drainClosed s).bench b).picker = (s.bench b).picker := by rw [answers.bench b]
  rwa [staffing, picker] at message

theorem endDrain_bench (b : Bench) (s : State) : (endDrain s).bench b = (panelResets (drainClosed s)).bench b := by
  obtain ⟨n, g, w, k, changed⟩ := endDrain_changes s
  rw [State.bench, State.bench, changed]

theorem endDrain_position (q : PutPos) (s : State) : (endDrain s).position q = (s.position q).cancelled.closed := by
  obtain ⟨n, g, w, k, changed⟩ := endDrain_changes s
  rw [← drainClosed_position, State.position, State.position, changed]

theorem endDrain_reads (s : State) : (endDrain s).bus.reads = (drainClosed s).bus.reads := by
  obtain ⟨n, g, w, k, changed⟩ := endDrain_changes s
  rw [changed]

theorem endDrain_posted (s : State) : ∃ w, (endDrain s).bus.posted = (drainClosed s).bus.posted ++ w := by
  obtain ⟨n, g, w, k, changed⟩ := endDrain_changes s
  exact ⟨w, by rw [changed]⟩

theorem endDrain_events (s : State) :
    (endDrain s).ntu.events = (drainClosed s).ntu.events ||| Event.runState.bits := by
  obtain ⟨n, g, w, k, changed⟩ := endDrain_changes s
  rw [changed]

theorem endDrain_hold (p : Port) (s : State) :
    (endDrain s).hold p = { s.hold p with holding := false, refresh := none, expiry := none } := by
  obtain ⟨n, g, w, k, changed⟩ := endDrain_changes s
  simp [changed, State.hold]

theorem drainTest_of_end (ends : s.pau.runState = .draining ∧ s.drained = true) : drainTest s = endDrain s :=
  if_pos ends

/-- Settles O26: the entry by its parts; the end by its frame, its orders and its panels. -/
theorem drainEndsAtItsEndCondition : Obligations.DrainEndsAtItsEndCondition := by
  refine ⟨fun s => ⟨enterDraining_eq s, enterDraining_runState s,
    fun b c _ own => not_mem_enterDraining_staged own s, finishStaged_drained s,
    fun c => ⟨fun state => cancelCall_taken state .drain s, fun notCalled notAccepted =>
      cancelCall_other notCalled notAccepted .drain s⟩⟩, fun s => ⟨fun stays => ?_, fun draining calls lanes merge => ?_⟩⟩
  · exact if_neg fun ends => stays ⟨ends.left, drained_iff.mp ends.right⟩
  intro t
  have ended : t = endDrain s := drainTest_of_end ⟨draining, drained_iff.mpr ⟨calls, lanes, merge⟩⟩
  obtain ⟨n, g, w, k, changed⟩ := endDrain_changes s
  have pau : t.pau =
      { s.pau with runState := .stopped, sweep := none, sweepTimer := none, editionDue := false, writeSeq := n } := by
    rw [ended, changed]
  rw [pau, ended]
  refine ⟨rfl, rfl, rfl, rfl, ?_, by rw [changed], fun q => ?_, by rw [changed]; rfl,
    by rw [changed]; rfl, fun p => endDrain_hold p s, by rw [changed], by rw [changed], rfl, rfl,
    fun q j held order => ?_, fun b up => ?_⟩
  · rw [endDrain_reads]
    exact drainClosed_discarded s
  · rw [endDrain_position]
    exact Position.cancelled_closed _
  · obtain ⟨raised, before, later, posted⟩ := drainClosed_writes held order
    obtain ⟨more, ended⟩ := endDrain_posted s
    refine ⟨?_, before, later ++ more, ?_⟩
    · rw [endDrain_events, BitVec.getLsbD_or, raised, Bool.true_or]
    · rw [ended, posted]
      exact List.append_assoc _ _ _
  · rw [endDrain_bench]
    exact drained_panel up

end Sys2Proof.Machine
end

section
/-! SUPPORT. The end of STARTING (O15): the part just started, and a drain that was due. -/

namespace Sys2Proof.Machine

variable {s t u : State}

/-! ### A part with nothing to do -/

/-- No card staged, called or standing, no position in use, no hold wanted, and a merge that nothing asks for. -/
structure State.Idle (s : State) : Prop where
  calls : s.lnc.calls = []
  lanes : ∀ p : Port, s.lane p = []
  staged : ∀ b : Bench, s.staged b = []
  positions : ∀ q : PutPos, s.position q = Position.empty
  wants : ∀ p : Port, (s.hold p).wants = false
  merge : s.mga.merge = .idle
  requests : s.mga.requests = []
  recirc : s.mga.recircFlag = false

theorem State.Idle.of_eq (idle : s.Idle) (lnc : t.lnc = s.lnc) (staging : t.cdm.staging = s.cdm.staging)
    (wall : t.wall = s.wall) (glc : t.glc = s.glc) (mga : t.mga = s.mga) : t.Idle where
  calls := by rw [lnc, idle.calls]
  lanes p := by rw [State.lane, lnc]; exact idle.lanes p
  staged b := by rw [State.staged, staging]; exact idle.staged b
  positions q := by rw [State.position, wall]; exact idle.positions q
  wants p := by rw [State.hold, glc]; exact idle.wants p
  merge := by rw [mga, idle.merge]
  requests := by rw [mga, idle.requests]
  recirc := by rw [mga, idle.recirc]

theorem setHold_hold (p : Port) (s : State) : setHold p (s.hold p) s = s := by simp [setHold, State.hold]

theorem setBench_bench (b : Bench) (s : State) : setBench b (s.bench b) s = s := by simp [setBench, State.bench]

section
variable (idle : s.Idle)
include idle

theorem State.Idle.wantsHold (p : Port) : s.wantsHold p = false := by
  simp [State.wantsHold, State.headStuck, State.head, State.portCalls, idle.lanes, idle.calls]

theorem State.Idle.refreshHolds : refreshHolds s = s := by
  refine List.foldl_fixed' (fun p => ?_) allPorts
  have acts : actOnWant p false false s = s := by simp [actOnWant]
  have flowing : { s.hold p with wants := false } = s.hold p := by rw [← idle.wants p]
  rw [refreshHold, idle.wants, idle.wantsHold, acts, setWants, flowing, setHold_hold]

/-- R143: with no request nothing is chosen. -/
theorem State.Idle.choose (frozenPriority : Bool) (k : Nat) : s.mga.choose frozenPriority k = none := by
  have unmarked : (rotation s.mga.lastPort).find? s.mga.marked = none := by
    simp [Mga.marked, idle.requests]
  have unasked : (rotation s.mga.lastPort).find? (fun p => (s.mga.request p).isSome) = none := by
    simp [Mga.request, idle.requests]
  simp [Mga.choose, unmarked, unasked, idle.recirc]

theorem State.Idle.mergeStep : mergeStep s = s := by
  simp [Machine.mergeStep, idle.merge, idle.choose]

theorem State.Idle.selectCalls : selectCalls s = s := by
  have none_staged : s.stagedCount = 0 := by simp [State.stagedCount, idle.staged, allBenches, sumNat]
  rw [Machine.selectCalls, none_staged, callLoop]

theorem State.Idle.settle (on : s.active = true) : settle s = drainTest (beginTakes s) := by
  rw [settle_active on, idle.refreshHolds, idle.mergeStep, idle.selectCalls]

end

/-! ### Takes begun (R36, R37) -/

/-- What the beginning of takes leaves: everything but the bus and the chains. -/
def TakesOnly (s t : State) : Prop := t = { s with bus := t.bus, cdm := { s.cdm with chains := t.cdm.chains } }

theorem TakesOnly.trans (a : TakesOnly s t) (b : TakesOnly t u) : TakesOnly s u := by
  unfold TakesOnly at *
  rw [b, a]

theorem takes_beginTake (b : Bench) (s : State) : TakesOnly s (beginTake b s) := by
  unfold beginTake
  split <;> rfl

theorem takes_beginTakes (s : State) : TakesOnly s (beginTakes s) := by
  unfold beginTakes
  generalize allBenches = l
  induction l generalizing s with
  | nil => rfl
  | cons b l ih => exact (takes_beginTake b s).trans (ih (beginTake b s))

theorem beginTakes_changes (s : State) : ∃ bus chains, beginTakes s =
    { s with bus := bus, cdm := { s.cdm with chains := chains } } := ⟨_, _, takes_beginTakes s⟩

/-! ### Settings taken (R9, R175, R180, R189) -/

/-- R175: a bench that the settings enable or not. -/
def Blc.enabledBy (enabled : Bool) (c : Blc) : Blc := if enabled then c else { c with staffing := .closed, picker := 0 }

theorem closeUnenabled_eq (b : Bench) (s : State) :
    closeUnenabled b s = setBench b ((s.bench b).enabledBy (s.st.benchEnabled b)) s := by
  unfold closeUnenabled Blc.enabledBy
  split
  · rw [setBench_bench]
  · rfl

/-- The benches as the settings leave them; nothing else changes. -/
def closeAllUnenabled (s : State) : State := allBenches.foldl (fun u b => closeUnenabled b u) s

theorem closeAllUnenabled_bench (b : Bench) (s : State) :
    (closeAllUnenabled s).bench b = (s.bench b).enabledBy (s.st.benchEnabled b) := by
  have others : ∀ (t : State) (b d : Bench), b ≠ d → (closeUnenabled b t).bench d = t.bench d := fun t b d other => by
    rw [closeUnenabled_eq, setBench_bench_ne other]
  have settings : ∀ (t : State) (b : Bench), (closeUnenabled b t).st = t.st := fun t b => by
    rw [closeUnenabled_eq]
    rfl
  have folded := foldl_bench (f := fun t b => closeUnenabled b t)
    (g := fun t b => (t.bench b).enabledBy (t.st.benchEnabled b))
    (fun t b => by rw [closeUnenabled_eq, setBench_bench_self]) others
    (fun t b d other => by rw [others t b d other, settings]) b allBenches (by decide) s
  exact folded.trans (if_pos (mem_allBenches b))

theorem closeAllUnenabled_eq (s : State) : closeAllUnenabled s = { s with blc := (closeAllUnenabled s).blc } := by
  unfold closeAllUnenabled
  generalize allBenches = l
  induction l generalizing s with
  | nil => rfl
  | cons b l ih =>
    rw [List.foldl_cons, ih, closeUnenabled_eq]
    rfl

/-- The part with the settings taken and its blocks emptied, up to the change of run state. -/
def startReady (st : Structural) (l : Live) (s : State) : State :=
  let t := closeAllUnenabled (startBlocks (takeSettings st l s))
  setPau { t.pau with drainDue := false } t

theorem startReady_changes (st : Structural) (l : Live) (s : State) : ∃ g w blc, startReady st l s = { s with
      pau := { s.pau with
        structural := some st, live := some l, errorCode := 0, floorClock := st.clockBase,
        completedEdition := s.pau.writtenEdition, editionDue := false, drainDue := false, writeSeq := 0 }
      bus := { s.bus with posted := w }
      ttu := Ttu.initial
      cdm := Cdm.initial
      wall := .replicate 64 Position.empty
      lnc := Lnc.initial
      lastLent := lastLentInitial
      exposures := []
      mga := Mga.initial
      glc := { s.glc with holds := .replicate 10 PortHold.flowing }
      blc := blc
      ntu := { s.ntu with signals := g, counters := Counters.zero } }
    ∧ ∀ b : Bench, blc[b] = ({ s.bench b with awaited := none } : Blc).enabledBy (st.benchEnabled b) := by
  obtain ⟨g, w, taken⟩ := findSignals_changes true (setPau
    { s.pau with
      structural := some st, live := some l, errorCode := 0, floorClock := st.clockBase,
      completedEdition := s.pau.writtenEdition, editionDue := false, writeSeq := 0 } s)
  have started : takeSettings st l s = _ := taken
  have benches := fun b => closeAllUnenabled_bench b (startBlocks (takeSettings st l s))
  have closed := closeAllUnenabled_eq (startBlocks (takeSettings st l s))
  have blc : ∀ b : Bench, (startBlocks (takeSettings st l s)).bench b = { s.bench b with awaited := none } := fun b => by
    simp [started, startBlocks, State.noticed, State.bench]
  have settings : (startBlocks (takeSettings st l s)).st = st := by
    simp [started, startBlocks, State.noticed, State.st]
  refine ⟨g, s.bus.posted ++ w, (closeAllUnenabled (startBlocks (takeSettings st l s))).blc, ?_, fun b => ?_⟩
  · rw [startReady]
    generalize (closeAllUnenabled (startBlocks (takeSettings st l s))) = c at closed ⊢
    generalize c.blc = d at closed ⊢
    subst closed
    rw [started]
    rfl
  · have bench := benches b
    rwa [blc, settings] at bench

theorem startAccepted_eq (st : Structural) (l : Live) (s : State) : startAccepted st l s =
    if s.pau.drainDue then settle (enterDraining (enterRunning (startReady st l s)))
    else enterRunning (startReady st l s) := by
  obtain ⟨g, w, taken⟩ := findSignals_changes true (setPau
    { s.pau with
      structural := some st, live := some l, errorCode := 0, floorClock := st.clockBase,
      completedEdition := s.pau.writtenEdition, editionDue := false, writeSeq := 0 } s)
  have started : takeSettings st l s = _ := taken
  have due : (closeAllUnenabled (startBlocks (takeSettings st l s))).pau.drainDue = s.pau.drainDue := by
    rw [closeAllUnenabled_eq, started]
    rfl
  rw [← due]
  rfl

theorem startReady_idle (st : Structural) (l : Live) (s : State) : (startReady st l s).Idle := by
  obtain ⟨g, w, blc, ready, -⟩ := startReady_changes st l s
  rw [ready]
  constructor <;> simp [Lnc.initial, Cdm.initial, Mga.initial, State.lane, State.staged, State.position, State.hold,
    PortHold.flowing]

/-! ### RUNNING begun, and a drain that was due (R188, R189) -/

theorem drainTest_running (running : s.pau.runState = .running) : drainTest s = s := if_neg fun ends => by
  rw [running] at ends
  exact absurd ends.left (by decide)

theorem setRunState_idle (r : RunState) (idle : s.Idle) : (setRunState r s).Idle := by
  obtain ⟨n, ev, g, w, changed⟩ := setRunState_changes r s
  rw [changed]
  exact idle.of_eq rfl rfl rfl rfl rfl

/-- R189: the entry to RUNNING of a part with nothing to do: the run state, the sweep timer, RUN_STATE and takes. -/
theorem enterRunning_idle (idle : s.Idle) : ∃ n g timer bus chains, enterRunning s = { s with
    pau := { s.pau with runState := .running, sweepTimer := timer, writeSeq := n }
    bus := bus
    cdm := { s.cdm with chains := chains }
    ntu := { s.ntu with events := s.ntu.events ||| Event.runState.bits, signals := g } } := by
  obtain ⟨n, g, w, running⟩ := setRunState_raises .running s
  have idle' := setRunState_idle .running idle
  rw [enterRunning]
  generalize setRunState .running s = t at running idle' ⊢
  generalize t.live.sweepReload = timer
  have state : (setPau { t.pau with sweepTimer := timer } t).pau.runState = .running := by rw [running]; rfl
  have rests : (setPau { t.pau with sweepTimer := timer } t).Idle := idle'.of_eq rfl rfl rfl rfl rfl
  obtain ⟨bus, chains, takes⟩ := beginTakes_changes (setPau { t.pau with sweepTimer := timer } t)
  have stays := drainTest_running (s := beginTakes (setPau { t.pau with sweepTimer := timer } t))
    (by rw [takes]; exact state)
  refine ⟨n, g, timer, bus, chains, ?_⟩
  rw [rests.settle (by rw [State.active, state]; rfl), stays, takes, running]
  rfl

/-- R192: with no card and no call the entry to DRAINING is the change of run state alone. -/
theorem enterDraining_idle (idle : s.Idle) : enterDraining s = setRunState .draining s := by
  have finished : finishAllStaged s = s := List.foldl_fixed' (fun b => by rw [idle.staged]; rfl) allBenches
  rw [enterDraining_eq, finished, idle.calls]
  rfl

/-- R189: a drain due meets its end condition at once. -/
theorem settle_enterDraining_idle (idle : s.Idle) :
    settle (enterDraining s) = endDrain (beginTakes (setRunState .draining s)) := by
  have idle' := setRunState_idle .draining idle
  have state := setRunState_runState .draining s
  rw [enterDraining_idle idle, idle'.settle (by rw [State.active, state]; rfl)]
  obtain ⟨bus, chains, takes⟩ := beginTakes_changes (setRunState .draining s)
  have rests : (beginTakes (setRunState .draining s)).Idle := by
    rw [takes]
    exact idle'.of_eq rfl rfl rfl rfl rfl
  refine drainTest_of_end ⟨?_, drained_iff.mpr ⟨rests.calls, rests.lanes, rests.merge⟩⟩
  rw [takes]
  exact state

/-! ### The end of a drain with no order at a position -/

theorem closeDrained_of_empty (empty : ∀ q : PutPos, s.position q = Position.empty) : closeDrained s = s :=
  List.foldl_fixed' (fun q => if_neg (by rw [empty]; exact Bool.false_ne_true)) allPositions

theorem endDrain_events_of_empty (empty : ∀ q : PutPos, s.position q = Position.empty) :
    (endDrain s).ntu.events = s.ntu.events ||| Event.runState.bits := by
  have cancelled : ∀ q : PutPos, (drainCancelled s).position q = Position.empty := fun q => by
    rw [drainCancelled_position, empty]
    rfl
  rw [endDrain_events, drainClosed, closeDrained_of_empty cancelled, drainCancelled_events]

theorem Blc.panelled_rest (c : Blc) :
    c.panelled = { c with link := c.panelled.link, awaited := c.panelled.awaited } := by
  unfold Blc.panelled
  split <;> rfl

/-- R178: the panels are told the staffing as it stands. -/
theorem endDrain_staffing (b : Bench) (s : State) : ((endDrain s).bench b).staffing = (s.bench b).staffing
    ∧ ((endDrain s).bench b).picker = (s.bench b).picker
    ∧ ((s.bench b).awaited = none → ((endDrain s).bench b).awaited = none) := by
  have answers := drainClosed_answers s
  rw [endDrain_bench, panelResets_bench]
  refine ⟨?_, ?_, fun quiet => Blc.panelled_awaited (.inr (answers.unawaited b quiet))⟩
  · rw [Blc.panelled_rest, answers.bench b]
  · rw [Blc.panelled_rest, answers.bench b]

/-! ### What either end of STARTING leaves -/

/-- The settings and collections of a part just started from `s`, whether or not a drain was due. -/
structure StartedWith (st : Structural) (l : Live) (s t : State) : Prop where
  structural : t.pau.structural = some st
  live : t.pau.live = some l
  errorCode : t.pau.errorCode = 0
  floorClock : t.pau.floorClock = st.clockBase
  completedEdition : t.pau.completedEdition = s.pau.writtenEdition
  editionDue : t.pau.editionDue = false
  stampTaken : t.pau.stampTaken = s.pau.stampTaken
  exposures : t.exposures = []
  calls : t.lnc.calls = []
  staged : ∀ b : Bench, t.staged b = []
  positions : ∀ q : PutPos, t.position q = Position.empty
  awaited : ∀ b : Bench, (t.bench b).awaited = none
  staffing : ∀ b : Bench, (t.bench b).staffing = if st.benchEnabled b then (s.bench b).staffing else .closed
  picker : ∀ b : Bench, (t.bench b).picker = if st.benchEnabled b then (s.bench b).picker else 0
  events : t.ntu.events = s.ntu.events ||| Event.runState.bits
  capture : t.ntu.capture = s.ntu.capture

theorem Blc.enabledBy_fields (enabled : Bool) (c : Blc) : (c.enabledBy enabled).awaited = c.awaited
    ∧ (c.enabledBy enabled).staffing = (if enabled then c.staffing else .closed)
    ∧ (c.enabledBy enabled).picker = if enabled then c.picker else 0 := by
  cases enabled <;> exact ⟨rfl, rfl, rfl⟩

theorem enterRunning_startReady_idle (st : Structural) (l : Live) (s : State) :
    (enterRunning (startReady st l s)).Idle := by
  have idle := startReady_idle st l s
  obtain ⟨n, g, timer, bus, chains, running⟩ := enterRunning_idle idle
  rw [running]
  exact idle.of_eq rfl rfl rfl rfl rfl

/-- RUNNING is reached, every counter 0. -/
theorem started_running (st : Structural) (l : Live) (s : State) :
    StartedWith st l s (enterRunning (startReady st l s)) ∧ (enterRunning (startReady st l s)).pau.runState = .running
    ∧ (enterRunning (startReady st l s)).ntu.counters = Counters.zero := by
  have idle := enterRunning_startReady_idle st l s
  obtain ⟨n, g, timer, bus, chains, running⟩ := enterRunning_idle (startReady_idle st l s)
  obtain ⟨g', w, blc, ready, benches⟩ := startReady_changes st l s
  have bench : ∀ b : Bench, (enterRunning (startReady st l s)).bench b =
      ({ s.bench b with awaited := none } : Blc).enabledBy (st.benchEnabled b) := fun b => by
    rw [← benches b, running, ready]
    rfl
  have fields := fun b : Bench => Blc.enabledBy_fields (st.benchEnabled b) { s.bench b with awaited := none }
  constructor
  · constructor
    case calls => exact idle.calls
    case staged => exact idle.staged
    case positions => exact idle.positions
    case awaited => exact fun b => by rw [bench]; exact (fields b).left
    case staffing => exact fun b => by rw [bench]; exact (fields b).right.left
    case picker => exact fun b => by rw [bench]; exact (fields b).right.right
    all_goals rw [running, ready]
  · rw [running, ready]
    exact ⟨rfl, rfl⟩

/-- A drain due ends the part just started in STOPPED, with its settings and collections as they stand. -/
theorem started_drained {st : Structural} {l : Live} (started : StartedWith st l s u) (idle : u.Idle) :
    StartedWith st l s (settle (enterDraining u)) ∧ (settle (enterDraining u)).pau.runState = .stopped := by
  obtain ⟨n, g, w, draining⟩ := setRunState_raises .draining u
  obtain ⟨bus, chains, takes⟩ := beginTakes_changes (setRunState .draining u)
  rw [settle_enterDraining_idle idle]
  generalize beginTakes (setRunState .draining u) = v at takes ⊢
  rw [draining] at takes
  obtain ⟨n', g', w', k, ended⟩ := endDrain_changes v
  have empty : ∀ q : PutPos, v.position q = Position.empty := fun q => by
    rw [takes]
    exact started.positions q
  have bench : ∀ b : Bench, v.bench b = u.bench b := fun b => by
    rw [takes]
    rfl
  have panels := fun b : Bench => endDrain_staffing b v
  constructor
  · constructor
    case structural => rw [ended, takes]; exact started.structural
    case live => rw [ended, takes]; exact started.live
    case errorCode => rw [ended, takes]; exact started.errorCode
    case floorClock => rw [ended, takes]; exact started.floorClock
    case completedEdition => rw [ended, takes]; exact started.completedEdition
    case editionDue => rw [ended]
    case stampTaken => rw [ended, takes]; exact started.stampTaken
    case exposures => rw [ended, takes]; exact started.exposures
    case calls => rw [ended, takes]; exact started.calls
    case staged => rw [ended, takes]; exact started.staged
    case positions => exact fun q => by rw [endDrain_position, empty]; rfl
    case awaited => exact fun b => (panels b).right.right (by rw [bench, started.awaited])
    case staffing => exact fun b => by rw [(panels b).left, bench, started.staffing]
    case picker => exact fun b => by rw [(panels b).right.left, bench, started.picker]
    case events =>
      have events : v.ntu.events = u.ntu.events ||| Event.runState.bits := by rw [takes]
      rw [endDrain_events_of_empty empty, events, started.events]
      simp only [BitVec.or_assoc, BitVec.or_self]
    case capture => rw [ended, takes]; exact started.capture
  · rw [ended]

/-- R188, R189: RUNNING, or with a drain due STOPPED. -/
theorem startAccepted_started (st : Structural) (l : Live) (s : State) : StartedWith st l s (startAccepted st l s)
    ∧ (s.pau.drainDue = false → (startAccepted st l s).ntu.counters = Counters.zero)
    ∧ (startAccepted st l s).pau.runState = if s.pau.drainDue then .stopped else .running := by
  obtain ⟨started, state, counters⟩ := started_running st l s
  cases due : s.pau.drainDue with
  | false =>
    have runs := (startAccepted_eq st l s).trans (if_neg (Bool.eq_false_iff.mp due))
    rw [runs]
    exact ⟨started, fun _ => counters, state⟩
  | true =>
    have drains := (startAccepted_eq st l s).trans (if_pos due)
    obtain ⟨drained, stopped⟩ := started_drained started (enterRunning_startReady_idle st l s)
    rw [drains]
    exact ⟨drained, fun absent => Bool.noConfusion absent, stopped⟩

/-! ### The Settings Block returns (R9, R189) -/

/-- R9: the stamp recorded. -/
def stamped (data : List Byte) (s : State) : State := setPau { s.pau with stampTaken := some (stampOf data) } s

theorem settingsReturned_eq (data : List Byte) (s : State) : settingsReturned data s =
    if settingsError s.areaBase (parseStructural data) (parseLive (data.drop 0x80)) = 0 then
      startAccepted (parseStructural data) (parseLive (data.drop 0x80)) (stamped data s)
    else enterFaulted (setPau { (stamped data s).pau with
      errorCode := settingsError s.areaBase (parseStructural data) (parseLive (data.drop 0x80)) } (stamped data s)) := rfl

theorem exec_settingsReadReturn {id : Nat} {data : List Byte} (whole : data.length = 256)
    (reading : s.reading id .settings) :
    exec (.settingsReadReturn id data) s = .next (settingsReturned data (endRead id s)) :=
  (if_pos whole).trans (congrArg Host.Outcome.next (withRead_reading reading rfl))

/-- Settles O15: the checks pass, so the part starts, drained at once when a drain is due; or one fails. -/
theorem settingsReadStartsOrFaults : Obligations.SettingsReadStartsOrFaults := by
  intro s id data whole reading st l
  rw [exec_settingsReadReturn whole reading, settingsReturned_eq]
  refine ⟨fun passes => ⟨_, congrArg Host.Outcome.next (if_pos passes), ?_⟩,
    fun fails => ⟨_, congrArg Host.Outcome.next (if_neg fails), ?_⟩⟩
  · obtain ⟨started, counters, state⟩ := startAccepted_started st l (stamped data (endRead id s))
    exact ⟨started.structural, started.live, started.errorCode, started.floorClock, started.completedEdition,
      started.editionDue, started.stampTaken, started.exposures, started.calls, started.staged,
      fun q => by rw [started.positions]; rfl, counters,
      fun b => ⟨started.awaited b, started.staffing b, started.picker b⟩, started.events, started.capture, state⟩
  · obtain ⟨n, ev, g, w, wall, blc, k, faulted, -⟩ := enterFaulted_changes
      (setPau { (stamped data (endRead id s)).pau with errorCode := settingsError s.areaBase st l }
        (stamped data (endRead id s)))
    have code : (endRead id s).areaBase = s.areaBase := rfl
    rw [code, faulted]
    exact ⟨rfl, rfl, rfl, rfl, rfl⟩

end Sys2Proof.Machine
end

section
/-! SUPPORT. A step at a command (O1); `step_of_empty_queue` is the idle step. -/

namespace Sys2Proof.Machine

theorem step_of_front_command {s : State} {c : Instr} {rest : List Instr} (front : s.pending = c :: rest) :
    step s = exec c { s with pending := rest } := by simp only [step, front]

/-- Settles O1: the front command leaves the queue, and taking the rest for the queue forgets what the queue was. -/
theorem stepRunsTheFrontCommand : Obligations.StepRunsTheFrontCommand := by
  intro c rest s
  have front : ({ s with pending := c :: rest } : State).pending = c :: rest := rfl
  exact step_of_front_command front

end Sys2Proof.Machine
end
